-- ==== Sys2Proof/Word.lean ====
section
/-! DEFINITION. The bit-vector types the spec uses: bytes, 16-bit words and identifiers. -/

namespace Sys2Proof

/-- A byte: an unsigned integer 0 to 255 (`00_scope.md` R12). -/
abbrev Byte := BitVec 8

/-- A 16-bit word: the CRC remainder and the operand `n` (`40_crc.md` R100, `30_encoding.md` R82). -/
abbrev Word16 := BitVec 16

/-- An identifier. It holds both identifier widths: with `ID_W = 1` only values up to `ID_MAX = 0xFF`
are identifiers (`30_encoding.md` R76); a wider one is ill-formed. DESIGN CHOICE, safe (log 10). -/
abbrev Ident := BitVec 16

end Sys2Proof
end

