-- ==== Sys2Proof/Config.lean ====
section
/-! DEFINITION. The parameters of an instance (`00_scope.md` R8), their legal ranges, the reference
values, and the one free value of the model. -/

namespace Sys2Proof

/-- `BYTE_ORDER`: the order of the bytes of every multi-byte field and value (`20_memory.md` R51). -/
inductive ByteOrder where
  | be
  | le
  deriving DecidableEq, Repr

/-- `ID_W`: the identifier field has 1 or 2 bytes (`00_scope.md` R8). -/
inductive IdWidth where
  | one
  | two
  deriving DecidableEq, Repr

/-- The parameters of one instance, fixed before reset and never changed after (`00_scope.md` R8).
`LEN_W = 1` and `CRC_W = 2` are fixed by the spec and are constants, not fields. -/
structure Params where
  /-- `ID_W`. -/
  idWidth : IdWidth
  /-- `BYTE_ORDER`. -/
  byteOrder : ByteOrder
  /-- `MAX_PAYLOAD`, 0 to 255. -/
  maxPayload : Fin 256
  /-- `TICK_W`, any positive integer. -/
  tickW : Nat
  /-- `IDLE_TIMEOUT`, a `TICK_W`-bit value. -/
  idleTimeout : Nat
  /-- `ENABLED_INIT`. -/
  enabledInit : Bool
  /-- `ERROR_REPLY_ENABLED`. -/
  errorReplyEnabled : Bool
  /-- `SIG_CHECKSUM`. -/
  sigChecksum : Ident
  /-- `SIG_TIMEOUT`. -/
  sigTimeout : Ident
  /-- `SIG_LENGTH`. -/
  sigLength : Ident
  /-- `SIG_UNKNOWN_ID`. -/
  sigUnknownId : Ident
  /-- `SIG_ACK`. -/
  sigAck : Ident
  /-- `SIG_NACK`. -/
  sigNack : Ident
  /-- `RESERVED_LO`, the lowest identifier of the reserved sub-range. -/
  reservedLo : Ident
  deriving DecidableEq, Repr

/-- The reference values of `00_scope.md` R8, with the signal identifiers of `30_encoding.md` R76 for
`ID_W = 2`. R8 gives `IDLE_TIMEOUT` no reference value: 100, the value most examples state, is a
DESIGN CHOICE, unsafe (log 2). -/
def Config.reference : Params where
  idWidth := .two
  byteOrder := .be
  maxPayload := 255
  tickW := 32
  idleTimeout := 100
  enabledInit := true
  errorReplyEnabled := true
  sigChecksum := 0xFFFF
  sigTimeout := 0xFFFE
  sigLength := 0xFFFD
  sigUnknownId := 0xFFFC
  sigAck := 0xFFFB
  sigNack := 0xFFFA
  reservedLo := 0xFFF0

/-- FREE VALUE. What the tick source answers to sample number `k` when the environment's script
(`State.ticks`) gives no value for it: any value (`10_state.md` R38, `70_reset_and_hazards.md` R253).
Nothing can evaluate it. DESIGN CHOICE, safe (log 7). -/
opaque Config.freeTick : Nat → Nat

end Sys2Proof
end

