-- ==== Sys2Proof/Syntax.lean ====
section
/-! DEFINITION. The ten value types and the 48 operations of `30_encoding.md` R84, one constructor per row
of spec/opcode_table.json, with operands of exactly the widths of R80 (identifiers: see `Ident`). -/

namespace Sys2Proof

/-- The ten value types (`00_scope.md` R17). -/
inductive ValType where
  | u8
  | s8
  | u16
  | s16
  | u32
  | s32
  | u64
  | s64
  | f32
  | f64
  deriving DecidableEq, Repr

/-- `width(t)`, in bytes (`00_scope.md` R17). -/
abbrev ValType.width : ValType → Nat
  | .u8 => 1
  | .s8 => 1
  | .u16 => 2
  | .s16 => 2
  | .u32 => 4
  | .s32 => 4
  | .u64 => 8
  | .s64 => 8
  | .f32 => 4
  | .f64 => 8

/-- The bits of a value of type `t`, `8*width(t)` (`00_scope.md` R17). -/
abbrev ValType.bits : ValType → Nat
  | .u8 => 8
  | .s8 => 8
  | .u16 => 16
  | .s16 => 16
  | .u32 => 32
  | .s32 => 32
  | .u64 => 64
  | .s64 => 64
  | .f32 => 32
  | .f64 => 64

/-- The operations (`30_encoding.md` R84). -/
inductive Instr where
  /-- `RX.TICK` (0x01), format N. -/
  | rxTick
  /-- `CFG.ENABLE` (0x02), format N. -/
  | cfgEnable
  /-- `CFG.DISABLE` (0x03), format N. -/
  | cfgDisable
  /-- `CRC16` (0x04), format B. -/
  | crc16 (n : Word16) (bytes : List Byte)
  /-- `TX.RAW` (0x05), format IB. -/
  | txRaw (id : Ident) (n : Word16) (bytes : List Byte)
  /-- `SIG.UNKNOWN_ID` (0x06), format I. -/
  | sigUnknownId (id : Ident)
  /-- `SIG.ACK` (0x07), format N. -/
  | sigAck
  /-- `SIG.NACK` (0x08), format N. -/
  | sigNack
  /-- `SER.U8` (0x10), format V. -/
  | serU8 (value : BitVec 8)
  /-- `SER.S8` (0x11), format V. -/
  | serS8 (value : BitVec 8)
  /-- `SER.U16` (0x12), format V. -/
  | serU16 (value : BitVec 16)
  /-- `SER.S16` (0x13), format V. -/
  | serS16 (value : BitVec 16)
  /-- `SER.U32` (0x14), format V. -/
  | serU32 (value : BitVec 32)
  /-- `SER.S32` (0x15), format V. -/
  | serS32 (value : BitVec 32)
  /-- `SER.U64` (0x16), format V. -/
  | serU64 (value : BitVec 64)
  /-- `SER.S64` (0x17), format V. -/
  | serS64 (value : BitVec 64)
  /-- `SER.F32` (0x18), format V. -/
  | serF32 (value : BitVec 32)
  /-- `SER.F64` (0x19), format V. -/
  | serF64 (value : BitVec 64)
  /-- `DES.U8` (0x20), format F: exactly 1 byte. -/
  | desU8 (bytes : List Byte)
  /-- `DES.S8` (0x21), format F: exactly 1 byte. -/
  | desS8 (bytes : List Byte)
  /-- `DES.U16` (0x22), format F: exactly 2 bytes. -/
  | desU16 (bytes : List Byte)
  /-- `DES.S16` (0x23), format F: exactly 2 bytes. -/
  | desS16 (bytes : List Byte)
  /-- `DES.U32` (0x24), format F: exactly 4 bytes. -/
  | desU32 (bytes : List Byte)
  /-- `DES.S32` (0x25), format F: exactly 4 bytes. -/
  | desS32 (bytes : List Byte)
  /-- `DES.U64` (0x26), format F: exactly 8 bytes. -/
  | desU64 (bytes : List Byte)
  /-- `DES.S64` (0x27), format F: exactly 8 bytes. -/
  | desS64 (bytes : List Byte)
  /-- `DES.F32` (0x28), format F: exactly 4 bytes. -/
  | desF32 (bytes : List Byte)
  /-- `DES.F64` (0x29), format F: exactly 8 bytes. -/
  | desF64 (bytes : List Byte)
  /-- `TX.U8` (0x30), format IV. -/
  | txU8 (id : Ident) (value : BitVec 8)
  /-- `TX.S8` (0x31), format IV. -/
  | txS8 (id : Ident) (value : BitVec 8)
  /-- `TX.U16` (0x32), format IV. -/
  | txU16 (id : Ident) (value : BitVec 16)
  /-- `TX.S16` (0x33), format IV. -/
  | txS16 (id : Ident) (value : BitVec 16)
  /-- `TX.U32` (0x34), format IV. -/
  | txU32 (id : Ident) (value : BitVec 32)
  /-- `TX.S32` (0x35), format IV. -/
  | txS32 (id : Ident) (value : BitVec 32)
  /-- `TX.U64` (0x36), format IV. -/
  | txU64 (id : Ident) (value : BitVec 64)
  /-- `TX.S64` (0x37), format IV. -/
  | txS64 (id : Ident) (value : BitVec 64)
  /-- `TX.F32` (0x38), format IV. -/
  | txF32 (id : Ident) (value : BitVec 32)
  /-- `TX.F64` (0x39), format IV. -/
  | txF64 (id : Ident) (value : BitVec 64)
  /-- `RECV.U8` (0x40), format N. -/
  | recvU8
  /-- `RECV.S8` (0x41), format N. -/
  | recvS8
  /-- `RECV.U16` (0x42), format N. -/
  | recvU16
  /-- `RECV.S16` (0x43), format N. -/
  | recvS16
  /-- `RECV.U32` (0x44), format N. -/
  | recvU32
  /-- `RECV.S32` (0x45), format N. -/
  | recvS32
  /-- `RECV.U64` (0x46), format N. -/
  | recvU64
  /-- `RECV.S64` (0x47), format N. -/
  | recvS64
  /-- `RECV.F32` (0x48), format N. -/
  | recvF32
  /-- `RECV.F64` (0x49), format N. -/
  | recvF64
  deriving DecidableEq, Repr

/-- `SER.t` for the type `t`. -/
def Instr.ser : (t : ValType) → BitVec t.bits → Instr
  | .u8, v => .serU8 v
  | .s8, v => .serS8 v
  | .u16, v => .serU16 v
  | .s16, v => .serS16 v
  | .u32, v => .serU32 v
  | .s32, v => .serS32 v
  | .u64, v => .serU64 v
  | .s64, v => .serS64 v
  | .f32, v => .serF32 v
  | .f64, v => .serF64 v

/-- `DES.t` for the type `t`. -/
def Instr.des : ValType → List Byte → Instr
  | .u8, bs => .desU8 bs
  | .s8, bs => .desS8 bs
  | .u16, bs => .desU16 bs
  | .s16, bs => .desS16 bs
  | .u32, bs => .desU32 bs
  | .s32, bs => .desS32 bs
  | .u64, bs => .desU64 bs
  | .s64, bs => .desS64 bs
  | .f32, bs => .desF32 bs
  | .f64, bs => .desF64 bs

/-- `TX.t` for the type `t`. -/
def Instr.tx : (t : ValType) → Ident → BitVec t.bits → Instr
  | .u8, id, v => .txU8 id v
  | .s8, id, v => .txS8 id v
  | .u16, id, v => .txU16 id v
  | .s16, id, v => .txS16 id v
  | .u32, id, v => .txU32 id v
  | .s32, id, v => .txS32 id v
  | .u64, id, v => .txU64 id v
  | .s64, id, v => .txS64 id v
  | .f32, id, v => .txF32 id v
  | .f64, id, v => .txF64 id v

/-- `RECV.t` for the type `t`. -/
def Instr.recv : ValType → Instr
  | .u8 => .recvU8
  | .s8 => .recvS8
  | .u16 => .recvU16
  | .s16 => .recvS16
  | .u32 => .recvU32
  | .s32 => .recvS32
  | .u64 => .recvU64
  | .s64 => .recvS64
  | .f32 => .recvF32
  | .f64 => .recvF64

/-- Why a decoder rejects an operation word. -/
inductive DecodeError where
  /-- No byte, so no operation code. Safe: the word is no operation of `30_encoding.md` R80. -/
  | emptyWord
  /-- A reserved operation code (`30_encoding.md` R85, `93_implementation_defined.md` U1). Safe: the block
  refuses it. -/
  | reservedOpcode (op : Byte)
  /-- The operand bytes are not those of the code's format (`30_encoding.md` R80; for `DES.t`
  `93_implementation_defined.md` U3). Safe: the word is no operation. -/
  | operandLength (op : Byte)
  deriving DecidableEq, Repr

end Sys2Proof
end

