-- ==== Sys2Proof/Machine/Bytes.lean ====
section
/-! DEFINITION. Byte-order functions (`20_memory.md` R50), the derived constants of an instance
(`00_scope.md` R9), and the legality of a parameter record (`00_scope.md` R8). -/

namespace Sys2Proof

/-- `be_N(v)`: `n` bytes, most significant first (`20_memory.md` R50). -/
def beBytes : Nat → Nat → List Byte
  | 0, _ => []
  | n + 1, v => BitVec.ofNat 8 (v >>> (8 * n)) :: beBytes n v

/-- `le_N(v)`: `n` bytes, least significant first (`20_memory.md` R50). -/
def leBytes : Nat → Nat → List Byte
  | 0, _ => []
  | n + 1, v => BitVec.ofNat 8 v :: leBytes n (v >>> 8)

/-- The number whose big-endian bytes are `bs`: the sum of `B[i] * 2^(8(N-1-i))` (`20_memory.md` R50). -/
def beNat : List Byte → Nat
  | [] => 0
  | b :: bs => b.toNat * 2 ^ (8 * bs.length) + beNat bs

/-- The number whose little-endian bytes are `bs`: the sum of `B[i] * 2^(8i)` (`20_memory.md` R50). -/
def leNat : List Byte → Nat
  | [] => 0
  | b :: bs => b.toNat + 2 ^ 8 * leNat bs

/-- `enc_N(v)` in the byte order `o` (`20_memory.md` R50). -/
def enc (o : ByteOrder) (n v : Nat) : List Byte :=
  match o with
  | .be => beBytes n v
  | .le => leBytes n v

/-- `dec_N(B)` in the byte order `o`, with `N = |B|` (`20_memory.md` R50). -/
def dec (o : ByteOrder) (bs : List Byte) : Nat :=
  match o with
  | .be => beNat bs
  | .le => leNat bs

/-- `trunc_N(v) = v mod 2^N` (`00_scope.md` R12). -/
def truncTo (n v : Nat) : Nat := v % 2 ^ n

/-- `trunc_N(a - b)` over the integers (`00_scope.md` R12): the wraparound-safe subtraction of
`42_rx_assembler.md` R147. -/
def truncSub (n a b : Nat) : Nat := (((a : Int) - (b : Int)) % ((2 ^ n : Nat) : Int)).toNat

/-- `ID_W` in bytes. -/
def Params.idBytes (p : Params) : Nat :=
  match p.idWidth with
  | .one => 1
  | .two => 2

/-- `H = ID_W + LEN_W`, with `LEN_W = 1` (`00_scope.md` R9). -/
def Params.hdr (p : Params) : Nat := p.idBytes + 1

/-- `OVERHEAD = H + CRC_W`, with `CRC_W = 2` (`00_scope.md` R9). -/
def Params.overhead (p : Params) : Nat := p.hdr + 2

/-- `CAP = MAX_PAYLOAD + OVERHEAD` (`00_scope.md` R9). -/
def Params.cap (p : Params) : Nat := p.maxPayload.val + p.overhead

/-- `ID_MAX = 2^(8*ID_W) - 1` (`00_scope.md` R9). -/
def Params.idMax (p : Params) : Nat := 2 ^ (8 * p.idBytes) - 1

/-- `CUR_W = ceil(log2(CAP + 1))`, the width of the cursor (`00_scope.md` R9). -/
def Params.curW (p : Params) : Nat := Nat.clog 2 (p.cap + 1)

/-- The six signal identifiers, in the order of `00_scope.md` R8. -/
def Params.signals (p : Params) : List Ident :=
  [p.sigChecksum, p.sigTimeout, p.sigLength, p.sigUnknownId, p.sigAck, p.sigNack]

/-- Whether `p` is a legal parameter record (`00_scope.md` R8): a positive tick width, an idle timeout of
that width, six distinct signal identifiers in `[RESERVED_LO, ID_MAX]`. -/
def Params.legal (p : Params) : Bool :=
  decide (0 < p.tickW) && decide (p.idleTimeout < 2 ^ p.tickW) &&
    p.signals.all (fun x => decide (p.reservedLo.toNat ≤ x.toNat) && decide (x.toNat ≤ p.idMax)) &&
    decide p.signals.Nodup

/-- Whether `id` is one of the identifiers `0 .. ID_MAX` (`30_encoding.md` R76). -/
def Params.idFits (p : Params) (id : Ident) : Bool := decide (id.toNat ≤ p.idMax)

/-- `enc_id(id) = enc_{ID_W}(id)` (`30_encoding.md` R72). -/
def encId (p : Params) (id : Ident) : List Byte := enc p.byteOrder p.idBytes id.toNat

/-- `dec_id(B) = dec_{ID_W}(B)` (`30_encoding.md` R72). -/
def decId (p : Params) (bs : List Byte) : Ident := BitVec.ofNat 16 (dec p.byteOrder bs)

end Sys2Proof
end

