-- ==== Sys2Proof/WellFormed.lean ====
section
/-! DEFINITION. Which terms of `Instr` are operations with legal operands on an instance with parameters
`p`: identifiers within `ID_MAX`, enough bytes for the length operand, exactly `width(t)` bytes for
`DES.t` (`30_encoding.md` R80, R82, R83). -/

namespace Sys2Proof

/-- The operand check of each operation. -/
def Instr.wellFormed (p : Params) : Instr → Bool
  | .rxTick => true
  | .cfgEnable => true
  | .cfgDisable => true
  | .crc16 n bytes => decide (n.toNat ≤ bytes.length)
  | .txRaw id n bytes => p.idFits id && decide (min n.toNat p.maxPayload.val ≤ bytes.length)
  | .sigUnknownId id => p.idFits id
  | .sigAck => true
  | .sigNack => true
  | .serU8 _ => true
  | .serS8 _ => true
  | .serU16 _ => true
  | .serS16 _ => true
  | .serU32 _ => true
  | .serS32 _ => true
  | .serU64 _ => true
  | .serS64 _ => true
  | .serF32 _ => true
  | .serF64 _ => true
  | .desU8 bytes => decide (bytes.length = 1)
  | .desS8 bytes => decide (bytes.length = 1)
  | .desU16 bytes => decide (bytes.length = 2)
  | .desS16 bytes => decide (bytes.length = 2)
  | .desU32 bytes => decide (bytes.length = 4)
  | .desS32 bytes => decide (bytes.length = 4)
  | .desU64 bytes => decide (bytes.length = 8)
  | .desS64 bytes => decide (bytes.length = 8)
  | .desF32 bytes => decide (bytes.length = 4)
  | .desF64 bytes => decide (bytes.length = 8)
  | .txU8 id _ => p.idFits id
  | .txS8 id _ => p.idFits id
  | .txU16 id _ => p.idFits id
  | .txS16 id _ => p.idFits id
  | .txU32 id _ => p.idFits id
  | .txS32 id _ => p.idFits id
  | .txU64 id _ => p.idFits id
  | .txS64 id _ => p.idFits id
  | .txF32 id _ => p.idFits id
  | .txF64 id _ => p.idFits id
  | .recvU8 => true
  | .recvS8 => true
  | .recvU16 => true
  | .recvS16 => true
  | .recvU32 => true
  | .recvS32 => true
  | .recvU64 => true
  | .recvS64 => true
  | .recvF32 => true
  | .recvF64 => true

end Sys2Proof
end

