-- ==== Sys2Proof/Decode.lean ====
section
/-! DEFINITION. The operation word: the decoder, total on any bytes, and the encoder, both written from
`30_encoding.md` R79, R80, R84 and R85. A word is the operation code byte followed by the operand bytes
in the order of the format. The spec fixes no byte layout of the operands; here `id`, `n` and `value`
stand most significant byte first in `ID_W`, 2 and `width(t)` bytes, whatever `BYTE_ORDER` is (R51 does
not list them), and a byte-sequence operand is the rest of the word. DESIGN CHOICE, safe (log 4). -/

namespace Sys2Proof

/-- The 4-bit type code of a value type (`30_encoding.md` R79). -/
def ValType.code : ValType → Nat
  | .u8 => 0x0
  | .s8 => 0x1
  | .u16 => 0x2
  | .s16 => 0x3
  | .u32 => 0x4
  | .s32 => 0x5
  | .u64 => 0x6
  | .s64 => 0x7
  | .f32 => 0x8
  | .f64 => 0x9

/-- The value type with a type code; 0xA to 0xF are reserved (`30_encoding.md` R79). -/
def ValType.ofCode : Nat → Option ValType
  | 0x0 => some .u8
  | 0x1 => some .s8
  | 0x2 => some .u16
  | 0x3 => some .s16
  | 0x4 => some .u32
  | 0x5 => some .s32
  | 0x6 => some .u64
  | 0x7 => some .s64
  | 0x8 => some .f32
  | 0x9 => some .f64
  | _ => none

/-- Format N: no operand (`30_encoding.md` R80). -/
def decodeN (op : Byte) (i : Instr) (args : List Byte) : Except DecodeError Instr :=
  if args.length = 0 then .ok i else .error (.operandLength op)

/-- Format B: `n`, then the byte sequence (`30_encoding.md` R80). -/
def decodeB (op : Byte) (args : List Byte) : Except DecodeError Instr :=
  if 2 ≤ args.length then .ok (.crc16 (BitVec.ofNat 16 (beNat (args.take 2))) (args.drop 2))
  else .error (.operandLength op)

/-- Format IB: `id`, `n`, then the byte sequence (`30_encoding.md` R80). -/
def decodeIB (p : Params) (op : Byte) (args : List Byte) : Except DecodeError Instr :=
  if p.idBytes + 2 ≤ args.length then
    .ok (.txRaw (BitVec.ofNat 16 (beNat (args.take p.idBytes)))
      (BitVec.ofNat 16 (beNat ((args.drop p.idBytes).take 2))) (args.drop (p.idBytes + 2)))
  else .error (.operandLength op)

/-- Format I: `id` (`30_encoding.md` R80). -/
def decodeI (p : Params) (op : Byte) (args : List Byte) : Except DecodeError Instr :=
  if args.length = p.idBytes then .ok (.sigUnknownId (BitVec.ofNat 16 (beNat args)))
  else .error (.operandLength op)

/-- Format V: `value` (`30_encoding.md` R80). -/
def decodeV (op : Byte) (t : ValType) (args : List Byte) : Except DecodeError Instr :=
  if args.length = t.width then .ok (Instr.ser t (BitVec.ofNat t.bits (beNat args)))
  else .error (.operandLength op)

/-- Format F: exactly `width(t)` bytes (`30_encoding.md` R80). -/
def decodeF (op : Byte) (t : ValType) (args : List Byte) : Except DecodeError Instr :=
  if args.length = t.width then .ok (Instr.des t args) else .error (.operandLength op)

/-- Format IV: `id`, then `value` (`30_encoding.md` R80). -/
def decodeIV (p : Params) (op : Byte) (t : ValType) (args : List Byte) : Except DecodeError Instr :=
  if args.length = p.idBytes + t.width then
    .ok (Instr.tx t (BitVec.ofNat 16 (beNat (args.take p.idBytes)))
      (BitVec.ofNat t.bits (beNat (args.drop p.idBytes))))
  else .error (.operandLength op)

/-- The codes 0x01 to 0x08 (`30_encoding.md` R84); 0x00 and 0x09 to 0x0F are reserved (R85). -/
def decodeGroup0 (p : Params) (op : Byte) (args : List Byte) : Except DecodeError Instr :=
  match op.toNat % 16 with
  | 0x1 => decodeN op .rxTick args
  | 0x2 => decodeN op .cfgEnable args
  | 0x3 => decodeN op .cfgDisable args
  | 0x4 => decodeB op args
  | 0x5 => decodeIB p op args
  | 0x6 => decodeI p op args
  | 0x7 => decodeN op .sigAck args
  | 0x8 => decodeN op .sigNack args
  | _ => .error (.reservedOpcode op)

/-- The codes 0x10 to 0xFF for the type whose code is `op[3:0]` (`30_encoding.md` R84); 0x50 to 0xFF are
reserved (R85). -/
def decodeTyped (p : Params) (op : Byte) (t : ValType) (args : List Byte) : Except DecodeError Instr :=
  match op.toNat / 16 with
  | 1 => decodeV op t args
  | 2 => decodeF op t args
  | 3 => decodeIV p op t args
  | 4 => decodeN op (Instr.recv t) args
  | _ => .error (.reservedOpcode op)

/-- The operation a word presents, or why it presents none: `op[7:4]` selects the group, `op[3:0]` the
member or the type code (`30_encoding.md` R80). -/
def decode (p : Params) : List Byte → Except DecodeError Instr
  | [] => .error .emptyWord
  | op :: args =>
    if op.toNat / 16 = 0 then decodeGroup0 p op args
    else
      match ValType.ofCode (op.toNat % 16) with
      | none => .error (.reservedOpcode op)
      | some t => decodeTyped p op t args

/-- Whether a code is reserved: the list of `30_encoding.md` R85. -/
def reservedCode (op : Byte) : Bool :=
  let n := op.toNat
  n == 0x00 || (decide (0x09 ≤ n) && decide (n ≤ 0x0F)) || (decide (0x1A ≤ n) && decide (n ≤ 0x1F)) ||
    (decide (0x2A ≤ n) && decide (n ≤ 0x2F)) || (decide (0x3A ≤ n) && decide (n ≤ 0x3F)) ||
    (decide (0x4A ≤ n) && decide (n ≤ 0x4F)) || decide (0x50 ≤ n)

/-- The operation code of each operation (`30_encoding.md` R84). -/
def opcode : Instr → Byte
  | .rxTick => 0x01
  | .cfgEnable => 0x02
  | .cfgDisable => 0x03
  | .crc16 _ _ => 0x04
  | .txRaw _ _ _ => 0x05
  | .sigUnknownId _ => 0x06
  | .sigAck => 0x07
  | .sigNack => 0x08
  | .serU8 _ => 0x10
  | .serS8 _ => 0x11
  | .serU16 _ => 0x12
  | .serS16 _ => 0x13
  | .serU32 _ => 0x14
  | .serS32 _ => 0x15
  | .serU64 _ => 0x16
  | .serS64 _ => 0x17
  | .serF32 _ => 0x18
  | .serF64 _ => 0x19
  | .desU8 _ => 0x20
  | .desS8 _ => 0x21
  | .desU16 _ => 0x22
  | .desS16 _ => 0x23
  | .desU32 _ => 0x24
  | .desS32 _ => 0x25
  | .desU64 _ => 0x26
  | .desS64 _ => 0x27
  | .desF32 _ => 0x28
  | .desF64 _ => 0x29
  | .txU8 _ _ => 0x30
  | .txS8 _ _ => 0x31
  | .txU16 _ _ => 0x32
  | .txS16 _ _ => 0x33
  | .txU32 _ _ => 0x34
  | .txS32 _ _ => 0x35
  | .txU64 _ _ => 0x36
  | .txS64 _ _ => 0x37
  | .txF32 _ _ => 0x38
  | .txF64 _ _ => 0x39
  | .recvU8 => 0x40
  | .recvS8 => 0x41
  | .recvU16 => 0x42
  | .recvS16 => 0x43
  | .recvU32 => 0x44
  | .recvS32 => 0x45
  | .recvU64 => 0x46
  | .recvS64 => 0x47
  | .recvF32 => 0x48
  | .recvF64 => 0x49

/-- The operand bytes of each operation, in the order of its format (`30_encoding.md` R80). -/
def operandBytes (p : Params) : Instr → List Byte
  | .rxTick => []
  | .cfgEnable => []
  | .cfgDisable => []
  | .crc16 n bytes => beBytes 2 n.toNat ++ bytes
  | .txRaw id n bytes => beBytes p.idBytes id.toNat ++ (beBytes 2 n.toNat ++ bytes)
  | .sigUnknownId id => beBytes p.idBytes id.toNat
  | .sigAck => []
  | .sigNack => []
  | .serU8 v => beBytes 1 v.toNat
  | .serS8 v => beBytes 1 v.toNat
  | .serU16 v => beBytes 2 v.toNat
  | .serS16 v => beBytes 2 v.toNat
  | .serU32 v => beBytes 4 v.toNat
  | .serS32 v => beBytes 4 v.toNat
  | .serU64 v => beBytes 8 v.toNat
  | .serS64 v => beBytes 8 v.toNat
  | .serF32 v => beBytes 4 v.toNat
  | .serF64 v => beBytes 8 v.toNat
  | .desU8 bytes => bytes
  | .desS8 bytes => bytes
  | .desU16 bytes => bytes
  | .desS16 bytes => bytes
  | .desU32 bytes => bytes
  | .desS32 bytes => bytes
  | .desU64 bytes => bytes
  | .desS64 bytes => bytes
  | .desF32 bytes => bytes
  | .desF64 bytes => bytes
  | .txU8 id v => beBytes p.idBytes id.toNat ++ beBytes 1 v.toNat
  | .txS8 id v => beBytes p.idBytes id.toNat ++ beBytes 1 v.toNat
  | .txU16 id v => beBytes p.idBytes id.toNat ++ beBytes 2 v.toNat
  | .txS16 id v => beBytes p.idBytes id.toNat ++ beBytes 2 v.toNat
  | .txU32 id v => beBytes p.idBytes id.toNat ++ beBytes 4 v.toNat
  | .txS32 id v => beBytes p.idBytes id.toNat ++ beBytes 4 v.toNat
  | .txU64 id v => beBytes p.idBytes id.toNat ++ beBytes 8 v.toNat
  | .txS64 id v => beBytes p.idBytes id.toNat ++ beBytes 8 v.toNat
  | .txF32 id v => beBytes p.idBytes id.toNat ++ beBytes 4 v.toNat
  | .txF64 id v => beBytes p.idBytes id.toNat ++ beBytes 8 v.toNat
  | .recvU8 => []
  | .recvS8 => []
  | .recvU16 => []
  | .recvS16 => []
  | .recvU32 => []
  | .recvS32 => []
  | .recvU64 => []
  | .recvS64 => []
  | .recvF32 => []
  | .recvF64 => []

/-- The word of an operation: its code, then its operands (`30_encoding.md` R80). -/
def encode (p : Params) (i : Instr) : List Byte := opcode i :: operandBytes p i

/-- How many operand bytes a code has when its byte-sequence operand, if it has one, is empty
(`DES.t`: its exact width). -/
def operandCount (p : Params) (op : Byte) : Nat :=
  let w := match ValType.ofCode (op.toNat % 16) with
    | none => 0
    | some t => t.width
  match op.toNat / 16 with
  | 0 =>
    match op.toNat % 16 with
    | 0x4 => 2
    | 0x5 => p.idBytes + 2
    | 0x6 => p.idBytes
    | _ => 0
  | 1 => w
  | 2 => w
  | 3 => p.idBytes + w
  | _ => 0

/-- The word whose bits are `w`, numbered as spec/opcode_table.json numbers them (bit 0 is the least
significant bit of the first byte): the `nbits / 8` bytes of `w`, then zero bytes up to the length of
the operation with that code. -/
def tableWord (p : Params) (nbits w : Nat) : List Byte :=
  let bs := (List.range (nbits / 8)).map (fun k => BitVec.ofNat 8 (w >>> (8 * k)))
  bs ++ List.replicate (1 + operandCount p (bs.headD 0) - bs.length) 0

/-- The operation the decoder reads from a row of spec/opcode_table.json, on the reference instance. -/
def decodeTableWord (nbits w : Nat) : Option Instr :=
  match decode Config.reference (tableWord Config.reference nbits w) with
  | .ok i => some i
  | .error _ => none

end Sys2Proof
end

