-- ==== Sys2Proof/Machine/Memory.lean ====
section
/-! DEFINITION. The one addressed memory of the block, `rxbuf` (`20_memory.md` R52), as a list of
(address, byte) pairs in one canonical form: addresses strictly rising, no entry equal to what an
unlisted address reads as. -/

namespace Sys2Proof.Machine

/-- The contents of `rxbuf`. -/
abbrev Memory := List Host.Cell

/-- What an address nothing has written reads as. The spec leaves it unspecified and unobservable
(`10_state.md` R21, `93_implementation_defined.md` U20). DESIGN CHOICE 0x00, unsafe (log 3). -/
def Memory.blank : Byte := 0x00

/-- The byte at an address. -/
def Memory.read : Memory → Nat → Byte
  | [], _ => Memory.blank
  | (a, b) :: m, i => if a = i then b else Memory.read m i

/-- Put `v` at address `i` in front of a memory whose addresses lie above `i`; a blank byte is not listed. -/
def Memory.cons (i : Nat) (v : Byte) (m : Memory) : Memory :=
  if v = Memory.blank then m else (i, v) :: m

/-- Write one byte (`20_memory.md` R55: every access is one byte wide). -/
def Memory.write : Memory → Nat → Byte → Memory
  | [], i, v => Memory.cons i v []
  | (a, b) :: m, i, v =>
    if i < a then Memory.cons i v ((a, b) :: m)
    else if i = a then Memory.cons i v m
    else (a, b) :: Memory.write m i v

/-- The canonical form for addresses from `lo` on. -/
def Memory.wfFrom : Nat → Memory → Bool
  | _, [] => true
  | lo, (a, b) :: m => decide (lo ≤ a) && decide (b ≠ Memory.blank) && Memory.wfFrom (a + 1) m

/-- The canonical form: strictly rising addresses, no blank entry. -/
def Memory.wf (m : Memory) : Bool := Memory.wfFrom 0 m

/-- Every listed address is below `n`. -/
def Memory.below (n : Nat) (m : Memory) : Bool := m.all (fun c => decide (c.1 < n))

end Sys2Proof.Machine
end

