-- ==== Sys2Proof/Machine/State.lean ====
section
/-! DEFINITION. The state of one channel instance (`10_state.md` R20), its interfaces held as plain data
(R36 to R40), the reasons a step can stop, and the machine right after reset (R42). -/

namespace Sys2Proof.Machine

/-- The control register (`10_state.md` R29). -/
structure Cfg where
  /-- `cfg.enabled`. -/
  enabled : Bool
  /-- `cfg.error_reply_enabled`, read-only after reset. -/
  errorReplyEnabled : Bool
  /-- `cfg.idle_timeout`, a `TICK_W`-bit value, read-only after reset. -/
  idleTimeout : Nat
  deriving DecidableEq, Repr

/-- An output event (`00_scope.md` R16). -/
inductive Event where
  /-- One whole frame handed to the byte sink in one call (`10_state.md` R37). -/
  | sink (frame : List Byte)
  /-- The frame handler is invoked with a validated frame (`10_state.md` R39). -/
  | handler (id : Ident) (len : Nat) (payload : List Byte) (crc : Word16)
  deriving DecidableEq, Repr

/-- A value on the result port. -/
inductive Value where
  /-- The 16-bit result of `CRC16` (`40_crc.md` R103). -/
  | crc (v : Word16)
  /-- The byte sequence of a `SER.t` (`41_codec.md` R110). -/
  | bytes (bs : List Byte)
  /-- The bit pattern of a `DES.t` or a `RECV.t`, to be read as a value of type `t` (`41_codec.md` R111). -/
  | pattern (t : ValType) (v : BitVec t.bits)
  deriving DecidableEq, Repr

/-- A result with its status, `OK` or `LENGTH_MISMATCH` with no value (`10_state.md` R32). -/
inductive Result where
  | ok (v : Value)
  | lengthMismatch
  deriving DecidableEq, Repr

/-- What the environment presents between two operations. -/
inductive Request where
  /-- An operation: its word (`30_encoding.md` R80). -/
  | operation (word : List Byte)
  /-- The reset event (`70_reset_and_hazards.md` R250). -/
  | reset
  deriving DecidableEq, Repr

/-- The state. The fields from `rxbuf` to `cfg` are those of `10_state.md` R20. `params` carries the
parameters of the instance (log 1); the fields from `port` on are the interfaces of R36 to R40 as plain
data (log 5 to log 8) and are the model's own. -/
structure State where
  /-- The parameters of the instance; no operation writes them (log 1). -/
  params : Params
  /-- `rxbuf`, the receive buffer. -/
  rxbuf : Memory
  /-- `cursor`, the number of bytes accumulated. -/
  cursor : Nat
  /-- `last_activity`, the tick value sampled when the last byte was accepted. -/
  lastActivity : Nat
  /-- `rxf_id`. -/
  rxfId : Ident
  /-- `rxf_len`, the clamped length of the last validated frame. -/
  rxfLen : Nat
  /-- `rxf_payload`: `MAX_PAYLOAD` bytes, zero from `rxf_len` on. -/
  rxfPayload : List Byte
  /-- `rxf_crc`. -/
  rxfCrc : Word16
  /-- `rxf_valid`. -/
  rxfValid : Bool
  /-- `cfg`. -/
  cfg : Cfg
  /-- The operation port: the requests still to come, the next one first (log 5). -/
  port : List Request
  /-- The byte source: its answers to the next polls, 9 bits each (log 6). -/
  source : List (BitVec 9)
  /-- The tick source: its values at the next samples (log 7). -/
  ticks : List Nat
  /-- How many samples of the tick source were taken; numbers the free values (log 7). -/
  tickIndex : Nat
  /-- The output events so far, oldest first (log 8). -/
  events : List Event
  /-- The results so far, oldest first (log 8). -/
  results : List Result
  deriving DecidableEq, Repr

/-- The reasons a step stops with a fault. -/
inductive Fault where
  /-- `RX.TICK` accepts a byte while `cursor` is above `CAP`, a state the spec does not have (`10_state.md`
  R20: 0 to `CAP`), so that the store would lie outside `rxbuf`. Safe (log 11). -/
  | rxbufOutOfRange
  deriving DecidableEq, Repr

/-- The reasons the machine gives an operation no meaning. -/
inductive Refusal where
  /-- An instruction the model does not reach; raised by `exec`'s arm only. Safe. -/
  | notModelled (mnemonic : String)
  /-- The presented word is no operation: a reserved code or operand bytes that are not those of the format
  (`30_encoding.md` R85, `93_implementation_defined.md` U1, U3); raised by `step`. Safe (log 12). -/
  | undecodable (e : DecodeError)
  /-- `CRC16` or `TX.RAW` with fewer bytes than the operation uses (`93_implementation_defined.md` U2). Safe
  (log 12). -/
  | shortSpan
  /-- `DES.t` with a byte sequence whose length is not `width(t)` (`93_implementation_defined.md` U3). Safe
  (log 12). -/
  | wrongWidth
  /-- `RECV.t` before any frame was validated (`93_implementation_defined.md` U4). Safe (log 12). -/
  | noValidFrame
  /-- An identifier operand above `ID_MAX` (`93_implementation_defined.md` U6); the decoder never gives one.
  Safe (log 10). -/
  | identifierTooWide
  deriving DecidableEq, Repr

/-- An instance with parameters `p` right after reset (`10_state.md` R42): Empty, no validated frame, `cfg`
latched from the parameters. `rxbuf` is unspecified there; here no address is listed (log 3). The
environment has presented nothing yet (log 5 to log 8). -/
def State.resetWith (p : Params) : State where
  params := p
  rxbuf := []
  cursor := 0
  lastActivity := 0
  rxfId := 0
  rxfLen := 0
  rxfPayload := List.replicate p.maxPayload.val 0
  rxfCrc := 0
  rxfValid := false
  cfg := { enabled := p.enabledInit, errorReplyEnabled := p.errorReplyEnabled, idleTimeout := p.idleTimeout }
  port := []
  source := []
  ticks := []
  tickIndex := 0
  events := []
  results := []

/-- The machine right after reset, with the reference parameters of `00_scope.md` R8. -/
def State.reset : State := State.resetWith Config.reference

end Sys2Proof.Machine
end

