-- ==== Sys2Proof/Machine/Operands.lean ====
section
/-! DEFINITION. Operand forms: the Codec's two functions, the frame the Frame Builder makes of its operands,
and the 9-bit answer of the byte source. -/

namespace Sys2Proof.Machine

/-- `ser(t, v)`: exactly `width(t)` bytes (`41_codec.md` R110). -/
def ser (o : ByteOrder) (t : ValType) (v : BitVec t.bits) : List Byte := enc o t.width v.toNat

/-- `des(t, B)`, for `|B| = width(t)` (`41_codec.md` R111). -/
def des (o : ByteOrder) (t : ValType) (bs : List Byte) : BitVec t.bits := BitVec.ofNat t.bits (dec o bs)

/-- The bytes of a frame that its checksum covers: IDENTIFIER, LENGTH, PAYLOAD (`30_encoding.md` R70). -/
def frameBody (p : Params) (id : Ident) (payload : List Byte) : List Byte :=
  encId p id ++ [BitVec.ofNat 8 payload.length] ++ payload

/-- `build_frame(id, P)`, for `|P| ≤ MAX_PAYLOAD` (`43_tx_builder.md` R170). -/
def buildFrame (p : Params) (id : Ident) (payload : List Byte) : List Byte :=
  frameBody p id payload ++ enc p.byteOrder 2 (crc16 (frameBody p id payload)).toNat

/-- The clamped length `min(n, MAX_PAYLOAD)` (`30_encoding.md` R73). -/
def clamp (p : Params) (n : Nat) : Nat := min n p.maxPayload.val

/-- The answer `rx_in` of the byte source: bit 8 set is `NONE` and bits 7:0 are ignored, else the byte in
bits 7:0 (`10_state.md` R36). -/
def rxAnswer (a : BitVec 9) : Option Byte := if a.msb then none else some (a.setWidth 8)

end Sys2Proof.Machine
end

