-- ==== Sys2Proof/Machine/Flags.lean ====
section
/-! DEFINITION. The block has no condition codes (`10_state.md` R32). Its status values: the two enable
bits as gates, the idle-timeout comparator, and the four receive states of R31, which are a function of
`cursor` and the LENGTH byte. -/

namespace Sys2Proof.Machine

/-- Transmission is on: `cfg.enabled = 1` (`43_tx_builder.md` R171). -/
def State.txOpen (s : State) : Bool := s.cfg.enabled

/-- Signals may be sent: `cfg.error_reply_enabled = 1` (`44_signals.md` R190). -/
def State.signalOpen (s : State) : Bool := s.cfg.errorReplyEnabled

/-- The clamped length of the frame being received: `min(rxbuf[ID_W], MAX_PAYLOAD)`
(`42_rx_assembler.md` R144). -/
def State.declaredLen (s : State) : Nat :=
  clamp s.params (Memory.read s.rxbuf s.params.idBytes).toNat

/-- `T = H + min(L, MAX_PAYLOAD) + CRC_W`, meaningful once `cursor ≥ H` (`10_state.md` R31). -/
def State.frameTotal (s : State) : Nat := s.params.hdr + s.declaredLen + 2

/-- The elapsed time `trunc_TICK_W(now - last_activity)` (`42_rx_assembler.md` R147). -/
def State.elapsed (s : State) (now : Nat) : Nat := truncSub s.params.tickW now s.lastActivity

/-- The test of step 6: the buffer is not empty and the elapsed time exceeds the idle timeout, strictly
(`42_rx_assembler.md` R147). -/
def State.timedOut (s : State) (now : Nat) : Bool :=
  decide (s.cursor ≠ 0) && decide (s.cfg.idleTimeout < s.elapsed now)

/-- The conceptual receive states (`10_state.md` R31). -/
inductive RxState where
  | empty
  | accumulating
  | awaitingPayloadAndCrc
  | complete
  deriving DecidableEq, Repr

/-- The receive state, inferred from the cursor and the LENGTH byte; none past the end of the frame, which
no reachable state is (`10_state.md` R31, R35). -/
def State.rxState (s : State) : Option RxState :=
  if s.cursor = 0 then some .empty
  else if s.cursor < s.params.hdr then some .accumulating
  else if s.cursor < s.frameTotal then some .awaitingPayloadAndCrc
  else if s.cursor = s.frameTotal then some .complete
  else none

end Sys2Proof.Machine
end

