-- ==== Sys2Proof/Machine/Ops.lean ====
section
/-! DEFINITION. The shared operations: access to `rxbuf` (`00_scope.md` R14), the environment's inputs
(`10_state.md` R36, R38), the output ports (R37, R39, R40), the transmit path (`43_tx_builder.md` R171,
`44_signals.md` R190), handling an error (`60_exceptions.md` R220 to R226), the steps of the Frame
Assembler (`42_rx_assembler.md` R143 to R147), typed receive (`45_typed_rx.md` R200), and reset of a
running instance (`70_reset_and_hazards.md` R250). Nothing is entered when an error is handled, so there
is no return operation (`60_exceptions.md` R230, R231). -/

namespace Sys2Proof.Machine

/-- `MemRead(i, n)`: the bytes `rxbuf[i..i+n)` (`00_scope.md` R14). Every call has `i + n ≤ CAP`
(`20_memory.md` R52). -/
def State.memRead (s : State) (i n : Nat) : List Byte :=
  (List.range n).map (fun k => Memory.read s.rxbuf (i + k))

/-- `MemWrite(i, 1, [b])` (`00_scope.md` R14). -/
def State.memWrite (s : State) (i : Nat) (b : Byte) : State :=
  { s with rxbuf := Memory.write s.rxbuf i b }

/-- The one sample of the tick source this invocation takes: a `TICK_W`-bit value; where the environment's
script gives none, a free value (`10_state.md` R38; log 7). -/
def State.now (s : State) : Nat :=
  truncTo s.params.tickW
    (match s.ticks with
    | t :: _ => t
    | [] => Config.freeTick s.tickIndex)

/-- The answer to the one poll of the byte source this invocation makes; a source with nothing left answers
`NONE` (`10_state.md` R36; log 6). -/
def State.rxIn (s : State) : Option Byte :=
  match s.source with
  | a :: _ => rxAnswer a
  | [] => none

/-- The inputs are taken: the poll consumes its answer (`20_memory.md` R57) and the sample is the next one. -/
def State.takeInputs (s : State) : State :=
  { s with source := s.source.tail, ticks := s.ticks.tail, tickIndex := s.tickIndex + 1 }

/-- `emit e` (`00_scope.md` R16). -/
def State.emit (e : Event) (s : State) : State := { s with events := s.events ++ [e] }

/-- `result <- r` (`00_scope.md` R16). -/
def State.giveResult (r : Result) (s : State) : State := { s with results := s.results ++ [r] }

/-- `tx_raw(id, P, n)`: a no-op when disabled, else one frame of the first `min(n, MAX_PAYLOAD)` bytes in one
call of the sink (`43_tx_builder.md` R171). -/
def txRaw (id : Ident) (payload : List Byte) (n : Nat) (s : State) : State :=
  if s.txOpen then s.emit (.sink (buildFrame s.params id (payload.take (clamp s.params n)))) else s

/-- `signal(sig, P)`: gated by `cfg.error_reply_enabled`, then `tx_raw` (`44_signals.md` R190). -/
def signal (sig : Ident) (payload : List Byte) (s : State) : State :=
  if s.signalOpen then txRaw sig payload payload.length s else s

/-- The error classes (`60_exceptions.md` R220), with the information each has. -/
inductive ErrorClass where
  | checksumMismatch
  | frameTimeout
  | lengthMismatch (id : Ident)
  | bufferOverrun (b : Byte)
  | unknownIdentifier (id : Ident)
  deriving DecidableEq, Repr

/-- The code of an error class, the identifier of its signal frame; a buffer overrun has none
(`60_exceptions.md` R226). -/
def ErrorClass.code (p : Params) : ErrorClass → Option Ident
  | .checksumMismatch => some p.sigChecksum
  | .frameTimeout => some p.sigTimeout
  | .lengthMismatch _ => some p.sigLength
  | .bufferOverrun _ => none
  | .unknownIdentifier _ => some p.sigUnknownId

/-- `raise X`: the whole effect of handling an error, after which the operation goes on (`60_exceptions.md`
R221 to R226). An overrun overwrites the last slot of `rxbuf`; an unknown identifier is raised by the
application only, through `SIG.UNKNOWN_ID`. -/
def raise (e : ErrorClass) (s : State) : State :=
  match e with
  | .checksumMismatch => signal s.params.sigChecksum [] { s with cursor := 0 }
  | .frameTimeout => signal s.params.sigTimeout [] { s with cursor := 0 }
  | .lengthMismatch id => signal s.params.sigLength (encId s.params id) s
  | .bufferOverrun b => s.memWrite (s.params.cap - 1) b
  | .unknownIdentifier id => signal s.params.sigUnknownId (encId s.params id) s

/-- Step 3: the timestamp (`42_rx_assembler.md` R142). -/
def State.touch (now : Nat) (s : State) : State := { s with lastActivity := now }

/-- Step 4: append the byte, or overwrite the last slot at capacity (`42_rx_assembler.md` R143); none when
`cursor` is above `CAP`, which the spec does not have (log 11). -/
def storeByte (b : Byte) (s : State) : Option State :=
  if s.cursor = s.params.cap then some (raise (.bufferOverrun b) s)
  else if s.cursor < s.params.cap then some { s.memWrite s.cursor b with cursor := s.cursor + 1 }
  else none

/-- The checksum computed over every byte but the two of the checksum (`42_rx_assembler.md` R145, 5a). -/
def State.calcCrc (s : State) : Word16 := crc16 (s.memRead 0 (s.params.hdr + s.declaredLen))

/-- The checksum received (`42_rx_assembler.md` R145, 5b). -/
def State.recvCrc (s : State) : Word16 :=
  BitVec.ofNat 16 (dec s.params.byteOrder (s.memRead (s.params.hdr + s.declaredLen) 2))

/-- The identifier received (`42_rx_assembler.md` R145, 5c). -/
def State.recvId (s : State) : Ident := decId s.params (s.memRead 0 s.params.idBytes)

/-- The payload received (`42_rx_assembler.md` R145, 5c). -/
def State.recvPayload (s : State) : List Byte := s.memRead s.params.hdr s.declaredLen

/-- Step 5c: the frame registers are written together, the payload zero-filled to `MAX_PAYLOAD` bytes
(`10_state.md` R24 to R28). -/
def State.latchFrame (s : State) : State :=
  { s with
    rxfId := s.recvId
    rxfLen := s.declaredLen
    rxfPayload := s.recvPayload ++ List.replicate (s.params.maxPayload.val - s.declaredLen) 0
    rxfCrc := s.recvCrc
    rxfValid := true }

/-- Step 5c: latch the frame, invoke the handler with it, empty the buffer (`42_rx_assembler.md` R145). -/
def deliver (s : State) : State :=
  { s.latchFrame.emit (.handler s.recvId s.declaredLen s.recvPayload s.recvCrc) with cursor := 0 }

/-- Step 5: the completion test by equality with the clamped length, then validation
(`42_rx_assembler.md` R144 to R146). -/
def checkFrame (s : State) : State :=
  if s.params.hdr ≤ s.cursor ∧ s.cursor = s.frameTotal then
    if s.calcCrc = s.recvCrc then deliver s else raise .checksumMismatch s
  else s

/-- Step 6: the idle timeout (`42_rx_assembler.md` R147). -/
def checkIdle (now : Nat) (s : State) : State :=
  if s.timedOut now then raise .frameTimeout s else s

/-- A refusal or a next state. -/
abbrev Out := Host.Outcome State Fault Refusal

/-- `SER.t` (`41_codec.md` R112 to R121): the result is `ser(t, value)`; not gated (R136). -/
def serialize (t : ValType) (v : BitVec t.bits) (s : State) : Out :=
  .next (s.giveResult (.ok (.bytes (ser s.params.byteOrder t v))))

/-- `DES.t` (`41_codec.md` R122 to R131): the result is `des(t, bytes)`; another length is no operand
(`93_implementation_defined.md` U3). -/
def deserialize (t : ValType) (bs : List Byte) (s : State) : Out :=
  if bs.length = t.width then .next (s.giveResult (.ok (.pattern t (des s.params.byteOrder t bs))))
  else .refused .wrongWidth

/-- `TX.t` (`43_tx_builder.md` R173 to R182): `tx_raw(id, ser(t, value), width(t))`. -/
def transmit (t : ValType) (id : Ident) (v : BitVec t.bits) (s : State) : Out :=
  if s.params.idFits id then .next (txRaw id (ser s.params.byteOrder t v) t.width s)
  else .refused .identifierTooWide

/-- `recv(t)` (`45_typed_rx.md` R200): refused before any frame, `LENGTH_MISMATCH` with its signal and no
value, or the pattern of the whole payload. -/
def recv (t : ValType) (s : State) : Out :=
  if s.rxfValid then
    if s.rxfLen = t.width then
      .next (s.giveResult (.ok (.pattern t (des s.params.byteOrder t (s.rxfPayload.take t.width)))))
    else .next ((raise (.lengthMismatch s.rxfId) s).giveResult .lengthMismatch)
  else .refused .noValidFrame

/-- The next request on the operation port, and the state with it taken off (`10_state.md` R40). -/
def State.fetch (s : State) : Option (Request × State) :=
  match s.port with
  | [] => none
  | r :: rest => some (r, { s with port := rest })

/-- Present an operation word as the next request. -/
def State.present (word : List Byte) (s : State) : State := { s with port := .operation word :: s.port }

/-- Reset of a running instance (`70_reset_and_hazards.md` R250): the values of `10_state.md` R42. `rxbuf` is
unspecified there and keeps its bytes (R21); the parameters stay (R251), and what belongs to the
environment is not covered (R253). -/
def State.applyReset (s : State) : State :=
  { State.resetWith s.params with
    rxbuf := s.rxbuf
    port := s.port
    source := s.source
    ticks := s.ticks
    tickIndex := s.tickIndex
    events := s.events
    results := s.results }

end Sys2Proof.Machine
end

