-- ==== Sys2Proof/Machine/Codec.lean ====
section
/-! DEFINITION. The Codec's operations: `SER.t` and `DES.t` (`41_codec.md`). -/

namespace Sys2Proof.Machine

/-- `SER.U8(value)` (`41_codec.md` R112). -/
def execSerU8 (v : BitVec 8) (s : State) : Out := serialize .u8 v s

/-- `SER.S8(value)` (`41_codec.md` R113). -/
def execSerS8 (v : BitVec 8) (s : State) : Out := serialize .s8 v s

/-- `SER.U16(value)` (`41_codec.md` R114). -/
def execSerU16 (v : BitVec 16) (s : State) : Out := serialize .u16 v s

/-- `SER.S16(value)` (`41_codec.md` R115). -/
def execSerS16 (v : BitVec 16) (s : State) : Out := serialize .s16 v s

/-- `SER.U32(value)` (`41_codec.md` R116). -/
def execSerU32 (v : BitVec 32) (s : State) : Out := serialize .u32 v s

/-- `SER.S32(value)` (`41_codec.md` R117). -/
def execSerS32 (v : BitVec 32) (s : State) : Out := serialize .s32 v s

/-- `SER.U64(value)` (`41_codec.md` R118). -/
def execSerU64 (v : BitVec 64) (s : State) : Out := serialize .u64 v s

/-- `SER.S64(value)` (`41_codec.md` R119). -/
def execSerS64 (v : BitVec 64) (s : State) : Out := serialize .s64 v s

/-- `SER.F32(value)` (`41_codec.md` R120). -/
def execSerF32 (v : BitVec 32) (s : State) : Out := serialize .f32 v s

/-- `SER.F64(value)` (`41_codec.md` R121). -/
def execSerF64 (v : BitVec 64) (s : State) : Out := serialize .f64 v s

/-- `DES.U8(bytes)` (`41_codec.md` R122). -/
def execDesU8 (bs : List Byte) (s : State) : Out := deserialize .u8 bs s

/-- `DES.S8(bytes)` (`41_codec.md` R123). -/
def execDesS8 (bs : List Byte) (s : State) : Out := deserialize .s8 bs s

/-- `DES.U16(bytes)` (`41_codec.md` R124). -/
def execDesU16 (bs : List Byte) (s : State) : Out := deserialize .u16 bs s

/-- `DES.S16(bytes)` (`41_codec.md` R125). -/
def execDesS16 (bs : List Byte) (s : State) : Out := deserialize .s16 bs s

/-- `DES.U32(bytes)` (`41_codec.md` R126). -/
def execDesU32 (bs : List Byte) (s : State) : Out := deserialize .u32 bs s

/-- `DES.S32(bytes)` (`41_codec.md` R127). -/
def execDesS32 (bs : List Byte) (s : State) : Out := deserialize .s32 bs s

/-- `DES.U64(bytes)` (`41_codec.md` R128). -/
def execDesU64 (bs : List Byte) (s : State) : Out := deserialize .u64 bs s

/-- `DES.S64(bytes)` (`41_codec.md` R129). -/
def execDesS64 (bs : List Byte) (s : State) : Out := deserialize .s64 bs s

/-- `DES.F32(bytes)` (`41_codec.md` R130). -/
def execDesF32 (bs : List Byte) (s : State) : Out := deserialize .f32 bs s

/-- `DES.F64(bytes)` (`41_codec.md` R131). -/
def execDesF64 (bs : List Byte) (s : State) : Out := deserialize .f64 bs s

end Sys2Proof.Machine
end

