-- ==== Sys2Proof/Machine/Control.lean ====
section
/-! DEFINITION. Channel control: `CFG.ENABLE` and `CFG.DISABLE` (`46_control.md`). -/

namespace Sys2Proof.Machine

/-- Write `cfg.enabled`, the only field of `cfg` that changes after reset (`46_control.md` R218). -/
def State.setEnabled (b : Bool) (s : State) : State := { s with cfg := { s.cfg with enabled := b } }

/-- `CFG.ENABLE`: `cfg.enabled <- 1` and nothing else (`46_control.md` R216). -/
def execCfgEnable (s : State) : Out := .next (s.setEnabled true)

/-- `CFG.DISABLE`: `cfg.enabled <- 0` and nothing else (`46_control.md` R217). -/
def execCfgDisable (s : State) : Out := .next (s.setEnabled false)

end Sys2Proof.Machine
end

