-- ==== Sys2Proof/Machine/Crc.lean ====
section
/-! DEFINITION. The CRC Engine's operation (`40_crc.md`). -/

namespace Sys2Proof.Machine

/-- `CRC16(n, bytes)`: the checksum of the first `n` bytes; fewer than `n` bytes are refused; not gated by
`cfg.enabled` (`40_crc.md` R103). -/
def execCrc16 (n : Word16) (bytes : List Byte) (s : State) : Out :=
  if bytes.length < n.toNat then .refused .shortSpan
  else .next (s.giveResult (.ok (.crc (crc16 (bytes.take n.toNat)))))

end Sys2Proof.Machine
end

