-- ==== Sys2Proof/Machine/Recv.lean ====
section
/-! DEFINITION. Typed receive validation: `RECV.t` (`45_typed_rx.md`). -/

namespace Sys2Proof.Machine

/-- `RECV.U8` (`45_typed_rx.md` R202). -/
def execRecvU8 (s : State) : Out := recv .u8 s

/-- `RECV.S8` (`45_typed_rx.md` R203). -/
def execRecvS8 (s : State) : Out := recv .s8 s

/-- `RECV.U16` (`45_typed_rx.md` R204). -/
def execRecvU16 (s : State) : Out := recv .u16 s

/-- `RECV.S16` (`45_typed_rx.md` R205). -/
def execRecvS16 (s : State) : Out := recv .s16 s

/-- `RECV.U32` (`45_typed_rx.md` R206). -/
def execRecvU32 (s : State) : Out := recv .u32 s

/-- `RECV.S32` (`45_typed_rx.md` R207). -/
def execRecvS32 (s : State) : Out := recv .s32 s

/-- `RECV.U64` (`45_typed_rx.md` R208). -/
def execRecvU64 (s : State) : Out := recv .u64 s

/-- `RECV.S64` (`45_typed_rx.md` R209). -/
def execRecvS64 (s : State) : Out := recv .s64 s

/-- `RECV.F32` (`45_typed_rx.md` R210). -/
def execRecvF32 (s : State) : Out := recv .f32 s

/-- `RECV.F64` (`45_typed_rx.md` R211). -/
def execRecvF64 (s : State) : Out := recv .f64 s

end Sys2Proof.Machine
end

