-- ==== Sys2Proof/Machine/Rx.lean ====
section
/-! DEFINITION. The Frame Assembler's operation (`42_rx_assembler.md`). -/

namespace Sys2Proof.Machine

/-- Steps 3 to 6 for an accepted byte (`42_rx_assembler.md` R140). -/
def acceptByte (now : Nat) (b : Byte) (s : State) : Out :=
  match storeByte b (s.touch now) with
  | some s' => .next (checkIdle now (checkFrame s'))
  | none => .fault .rxbufOutOfRange

/-- `RX.TICK`: nothing when disabled; else one poll and one sample, then steps 3 to 6 with a byte or step 6
alone without one (`42_rx_assembler.md` R140). -/
def execRxTick (s : State) : Out :=
  if s.cfg.enabled then
    match s.rxIn with
    | none => .next (checkIdle s.now s.takeInputs)
    | some b => acceptByte s.now b s.takeInputs
  else .next s

end Sys2Proof.Machine
end

