-- ==== Sys2Proof/Machine/Signals.lean ====
section
/-! DEFINITION. The signals the application raises (`44_signals.md`). -/

namespace Sys2Proof.Machine

/-- `SIG.UNKNOWN_ID(id)`: `signal(SIG_UNKNOWN_ID, enc_id(id))` (`44_signals.md` R194). -/
def execSigUnknownId (id : Ident) (s : State) : Out :=
  if s.params.idFits id then .next (raise (.unknownIdentifier id) s) else .refused .identifierTooWide

/-- `SIG.ACK`: `signal(SIG_ACK, [])` (`44_signals.md` R195). -/
def execSigAck (s : State) : Out := .next (signal s.params.sigAck [] s)

/-- `SIG.NACK`: `signal(SIG_NACK, [])` (`44_signals.md` R196). -/
def execSigNack (s : State) : Out := .next (signal s.params.sigNack [] s)

end Sys2Proof.Machine
end

