-- ==== Sys2Proof/Machine/Tx.lean ====
section
/-! DEFINITION. The Frame Builder's operations: `TX.RAW` and `TX.t` (`43_tx_builder.md`). -/

namespace Sys2Proof.Machine

/-- `TX.RAW(id, n, bytes)`: refused when fewer than `min(n, MAX_PAYLOAD)` bytes are presented, else
`tx_raw(id, bytes, n)` (`43_tx_builder.md` R172). -/
def execTxRaw (id : Ident) (n : Word16) (bytes : List Byte) (s : State) : Out :=
  if s.params.idFits id then
    if bytes.length < clamp s.params n.toNat then .refused .shortSpan
    else .next (txRaw id bytes n.toNat s)
  else .refused .identifierTooWide

/-- `TX.U8(id, value)` (`43_tx_builder.md` R173). -/
def execTxU8 (id : Ident) (v : BitVec 8) (s : State) : Out := transmit .u8 id v s

/-- `TX.S8(id, value)` (`43_tx_builder.md` R174). -/
def execTxS8 (id : Ident) (v : BitVec 8) (s : State) : Out := transmit .s8 id v s

/-- `TX.U16(id, value)` (`43_tx_builder.md` R175). -/
def execTxU16 (id : Ident) (v : BitVec 16) (s : State) : Out := transmit .u16 id v s

/-- `TX.S16(id, value)` (`43_tx_builder.md` R176). -/
def execTxS16 (id : Ident) (v : BitVec 16) (s : State) : Out := transmit .s16 id v s

/-- `TX.U32(id, value)` (`43_tx_builder.md` R177). -/
def execTxU32 (id : Ident) (v : BitVec 32) (s : State) : Out := transmit .u32 id v s

/-- `TX.S32(id, value)` (`43_tx_builder.md` R178). -/
def execTxS32 (id : Ident) (v : BitVec 32) (s : State) : Out := transmit .s32 id v s

/-- `TX.U64(id, value)` (`43_tx_builder.md` R179). -/
def execTxU64 (id : Ident) (v : BitVec 64) (s : State) : Out := transmit .u64 id v s

/-- `TX.S64(id, value)` (`43_tx_builder.md` R180). -/
def execTxS64 (id : Ident) (v : BitVec 64) (s : State) : Out := transmit .s64 id v s

/-- `TX.F32(id, value)` (`43_tx_builder.md` R181). -/
def execTxF32 (id : Ident) (v : BitVec 32) (s : State) : Out := transmit .f32 id v s

/-- `TX.F64(id, value)` (`43_tx_builder.md` R182). -/
def execTxF64 (id : Ident) (v : BitVec 64) (s : State) : Out := transmit .f64 id v s

end Sys2Proof.Machine
end

