-- ==== Sys2Proof/Machine/Dispatch.lean ====
section
/-! DEFINITION. The meaning of each operation, one arm per constructor of `Instr`. -/

namespace Sys2Proof.Machine

def exec (i : Instr) (s : State) : Host.Outcome State Fault Refusal :=
  match i with
  | .rxTick => Sys2Proof.Machine.execRxTick s
  | .cfgEnable => Sys2Proof.Machine.execCfgEnable s
  | .cfgDisable => Sys2Proof.Machine.execCfgDisable s
  | .crc16 n bytes => Sys2Proof.Machine.execCrc16 n bytes s
  | .txRaw id n bytes => Sys2Proof.Machine.execTxRaw id n bytes s
  | .sigUnknownId id => Sys2Proof.Machine.execSigUnknownId id s
  | .sigAck => Sys2Proof.Machine.execSigAck s
  | .sigNack => Sys2Proof.Machine.execSigNack s
  | .serU8 v => Sys2Proof.Machine.execSerU8 v s
  | .serS8 v => Sys2Proof.Machine.execSerS8 v s
  | .serU16 v => Sys2Proof.Machine.execSerU16 v s
  | .serS16 v => Sys2Proof.Machine.execSerS16 v s
  | .serU32 v => Sys2Proof.Machine.execSerU32 v s
  | .serS32 v => Sys2Proof.Machine.execSerS32 v s
  | .serU64 v => Sys2Proof.Machine.execSerU64 v s
  | .serS64 v => Sys2Proof.Machine.execSerS64 v s
  | .serF32 v => Sys2Proof.Machine.execSerF32 v s
  | .serF64 v => Sys2Proof.Machine.execSerF64 v s
  | .desU8 bytes => Sys2Proof.Machine.execDesU8 bytes s
  | .desS8 bytes => Sys2Proof.Machine.execDesS8 bytes s
  | .desU16 bytes => Sys2Proof.Machine.execDesU16 bytes s
  | .desS16 bytes => Sys2Proof.Machine.execDesS16 bytes s
  | .desU32 bytes => Sys2Proof.Machine.execDesU32 bytes s
  | .desS32 bytes => Sys2Proof.Machine.execDesS32 bytes s
  | .desU64 bytes => Sys2Proof.Machine.execDesU64 bytes s
  | .desS64 bytes => Sys2Proof.Machine.execDesS64 bytes s
  | .desF32 bytes => Sys2Proof.Machine.execDesF32 bytes s
  | .desF64 bytes => Sys2Proof.Machine.execDesF64 bytes s
  | .txU8 id v => Sys2Proof.Machine.execTxU8 id v s
  | .txS8 id v => Sys2Proof.Machine.execTxS8 id v s
  | .txU16 id v => Sys2Proof.Machine.execTxU16 id v s
  | .txS16 id v => Sys2Proof.Machine.execTxS16 id v s
  | .txU32 id v => Sys2Proof.Machine.execTxU32 id v s
  | .txS32 id v => Sys2Proof.Machine.execTxS32 id v s
  | .txU64 id v => Sys2Proof.Machine.execTxU64 id v s
  | .txS64 id v => Sys2Proof.Machine.execTxS64 id v s
  | .txF32 id v => Sys2Proof.Machine.execTxF32 id v s
  | .txF64 id v => Sys2Proof.Machine.execTxF64 id v s
  | .recvU8 => Sys2Proof.Machine.execRecvU8 s
  | .recvS8 => Sys2Proof.Machine.execRecvS8 s
  | .recvU16 => Sys2Proof.Machine.execRecvU16 s
  | .recvS16 => Sys2Proof.Machine.execRecvS16 s
  | .recvU32 => Sys2Proof.Machine.execRecvU32 s
  | .recvS32 => Sys2Proof.Machine.execRecvS32 s
  | .recvU64 => Sys2Proof.Machine.execRecvU64 s
  | .recvS64 => Sys2Proof.Machine.execRecvS64 s
  | .recvF32 => Sys2Proof.Machine.execRecvF32 s
  | .recvF64 => Sys2Proof.Machine.execRecvF64 s

end Sys2Proof.Machine
end

