-- ==== Sys2Proof/Machine/Step.lean ====
section
/-! DEFINITION. One step: take the next request off the operation port and carry it out. -/

namespace Sys2Proof.Machine

/-- One step (`10_state.md` R40). With no request on the port nothing happens: the block does nothing between
operations (`70_reset_and_hazards.md` R252; log 5). A word that is no operation is refused
(`30_encoding.md` R85). -/
def step (s : State) : Host.Outcome State Fault Refusal :=
  match s.fetch with
  | none => .next s
  | some (.reset, s') => .next s'.applyReset
  | some (.operation word, s') =>
    match decode s.params word with
    | .ok i => exec i s'
    | .error e => .refused (.undecodable e)

/-- `s` with the operation of a table word presented as its next request (log 5). -/
def State.withFetchWord (s : State) (nbits w : Nat) : State := s.present (tableWord s.params nbits w)

end Sys2Proof.Machine
end

