-- ==== Sys2Proof/Safety.lean ====
section
/-! DEFINITION. What counts as a safe state and a safe run, in the terms the statements use: the invariant
of `10_state.md` R34 and R35, valid frames (`43_tx_builder.md` R183), the wire form of a number index by
index (`20_memory.md` R50), the CRC as polynomial arithmetic (`40_crc.md` R102), runs of `RX.TICK` fed by
a script of the environment (`42_rx_assembler.md` R153), and which states no operation can tell apart
(`10_state.md` R21). -/

namespace Sys2Proof.Machine

/-- `enc_N(v)` byte by byte, as `20_memory.md` R50 writes it. -/
def wireBytes (o : ByteOrder) (n v : Nat) : List Byte :=
  (List.range n).map (fun i =>
    match o with
    | .be => BitVec.ofNat 8 ((v >>> (8 * (n - 1 - i))) &&& 0xFF)
    | .le => BitVec.ofNat 8 ((v >>> (8 * i)) &&& 0xFF))

/-- `dec_N(B)` as the sum `20_memory.md` R50 writes. -/
def wireNat (o : ByteOrder) (bs : List Byte) : Nat :=
  ∑ i ∈ Finset.range bs.length,
    match o with
    | .be => (bs.getD i 0).toNat * 2 ^ (8 * (bs.length - 1 - i))
    | .le => (bs.getD i 0).toNat * 2 ^ (8 * i)

/-- The frame of `30_encoding.md` R70, field by field, for an identifier and a payload. -/
def wireFrame (p : Params) (id : Ident) (payload : List Byte) : List Byte :=
  let body := wireBytes p.byteOrder p.idBytes id.toNat ++ [BitVec.ofNat 8 payload.length] ++ payload
  body ++ wireBytes p.byteOrder 2 (crc16 body).toNat

/-- The polynomial over GF(2) whose coefficients are the bits of `v` (`40_crc.md` R102). -/
noncomputable def bitsPoly {w : Nat} (v : BitVec w) : Polynomial (ZMod 2) :=
  ∑ i ∈ Finset.range w, if v.getLsbD i then Polynomial.X ^ i else 0

/-- `B(x)`: the bits of `B` as coefficients, first byte and most significant bit highest
(`40_crc.md` R102). -/
noncomputable def messagePoly : List Byte → Polynomial (ZMod 2)
  | [] => 0
  | b :: bs => bitsPoly b * Polynomial.X ^ (8 * bs.length) + messagePoly bs

/-- The generator `x^16 + x^12 + x^5 + 1` (`40_crc.md` R102). -/
noncomputable def crcPoly : Polynomial (ZMod 2) :=
  Polynomial.X ^ 16 + Polynomial.X ^ 12 + Polynomial.X ^ 5 + 1

/-- A frame valid for a receiver with the same parameters (`43_tx_builder.md` R183), of a length the sink is
promised (`10_state.md` R37). -/
def ValidFrame (p : Params) (f : List Byte) : Prop :=
  p.overhead ≤ f.length ∧ f.length ≤ p.cap ∧
    f.length = p.hdr + (f.getD p.idBytes 0).toNat + 2 ∧
    (f.getD p.idBytes 0).toNat ≤ p.maxPayload.val ∧
    dec p.byteOrder (f.drop (f.length - 2)) = (crc16 (f.take (f.length - 2))).toNat

/-- An event the block may emit: a valid frame, or a delivery of an identifier with exactly `len` payload
bytes, at most `MAX_PAYLOAD` (`10_state.md` R37, R39). -/
def ValidEvent (p : Params) : Event → Prop
  | .sink f => ValidFrame p f
  | .handler id len payload _ => id.toNat ≤ p.idMax ∧ len ≤ p.maxPayload.val ∧ payload.length = len

/-- What holds after reset and after every operation. -/
structure State.Safe (s : State) : Prop where
  /-- The parameters are legal (`00_scope.md` R8). -/
  legal : s.params.legal = true
  /-- `rxbuf` is in canonical form. -/
  bufWf : Memory.wf s.rxbuf = true
  /-- `rxbuf` lists no address outside 0 to `CAP - 1` (`20_memory.md` R52). -/
  bufBelow : Memory.below s.params.cap s.rxbuf = true
  /-- `10_state.md` R35. -/
  cursorShort : s.cursor < s.params.hdr ∨ s.cursor < s.frameTotal
  /-- `last_activity` is a `TICK_W`-bit value (`10_state.md` R20). -/
  lastBits : s.lastActivity < 2 ^ s.params.tickW
  /-- `rxf_id` is an identifier (`10_state.md` R20). -/
  idFits : s.rxfId.toNat ≤ s.params.idMax
  /-- `10_state.md` R34. -/
  lenFits : s.rxfLen ≤ s.params.maxPayload.val
  /-- `rxf_payload` is `MAX_PAYLOAD` bytes (`10_state.md` R20). -/
  payloadSize : s.rxfPayload.length = s.params.maxPayload.val
  /-- No stale payload byte (`10_state.md` R26). -/
  payloadTail : s.rxfPayload.drop s.rxfLen = List.replicate (s.params.maxPayload.val - s.rxfLen) 0
  /-- `10_state.md` R34. -/
  fresh : s.rxfValid = false →
    s.rxfId = 0 ∧ s.rxfLen = 0 ∧ s.rxfCrc = 0 ∧ s.rxfPayload = List.replicate s.params.maxPayload.val 0
  /-- `cfg.error_reply_enabled` keeps its reset value (`46_control.md` R218). -/
  replyFixed : s.cfg.errorReplyEnabled = s.params.errorReplyEnabled
  /-- `cfg.idle_timeout` keeps its reset value (`46_control.md` R218). -/
  timeoutFixed : s.cfg.idleTimeout = s.params.idleTimeout
  /-- Every event so far is one the block may emit. -/
  eventsValid : ∀ e ∈ s.events, ValidEvent s.params e

/-- The state after steps 2 to 4 of `RX.TICK` took the byte `b`: the inputs are consumed, the timestamp is the
sample, and the byte stands at index `cursor`, or at `CAP - 1` when the buffer is at capacity
(`42_rx_assembler.md` R142, R143). -/
def State.withByte (s : State) (b : Byte) : State :=
  { s with
    source := s.source.tail
    ticks := s.ticks.tail
    tickIndex := s.tickIndex + 1
    lastActivity := s.now
    rxbuf := Memory.write s.rxbuf (if s.cursor = s.params.cap then s.params.cap - 1 else s.cursor) b
    cursor := if s.cursor = s.params.cap then s.params.cap else s.cursor + 1 }

/-- The events after the attempt to send a signal frame (`44_signals.md` R190). -/
def State.signalled (s : State) (sig : Ident) (payload : List Byte) : List Event :=
  if s.cfg.errorReplyEnabled = true ∧ s.cfg.enabled = true then
    s.events ++ [.sink (wireFrame s.params sig (payload.take s.params.maxPayload.val))]
  else s.events

/-- The events after a transmission (`43_tx_builder.md` R171). -/
def State.transmitted (s : State) (id : Ident) (payload : List Byte) : List Event :=
  if s.cfg.enabled = true then
    s.events ++ [.sink (wireFrame s.params id (payload.take s.params.maxPayload.val))]
  else s.events

/-- `n` invocations of `RX.TICK` in a row. -/
def runTicks : Nat → State → Out
  | 0, s => .next s
  | n + 1, s =>
    match exec .rxTick s with
    | .next s' => runTicks n s'
    | .fault f => .fault f
    | .refused r => .refused r

/-- What the environment answers to the `RX.TICK`s of a run: for each, the byte source's answer and the tick
value. -/
abbrev Script := List (Option Byte × Nat)

/-- The 9-bit form of an answer (`10_state.md` R36). -/
def rxCode : Option Byte → BitVec 9
  | none => 0x100
  | some b => b.setWidth 9

/-- `s` with its byte source and tick source answering as the script says. -/
def State.fed (script : Script) (s : State) : State :=
  { s with source := script.map (fun x => rxCode x.1), ticks := script.map (fun x => x.2) }

/-- No silence of the script is longer than `idle`: every `NONE` after an accepted byte comes at most `idle`
ticks after it, modulo `2^w` (`42_rx_assembler.md` R153). `last` is the tick of the last accepted byte. -/
def Prompt (w idle : Nat) : Option Nat → Script → Prop
  | _, [] => True
  | _, (some _, n) :: rest => n < 2 ^ w ∧ Prompt w idle (some n) rest
  | none, (none, n) :: rest => n < 2 ^ w ∧ Prompt w idle none rest
  | some l, (none, n) :: rest => n < 2 ^ w ∧ truncSub w n l ≤ idle ∧ Prompt w idle (some l) rest

/-- Two states that differ at most in the bytes of `rxbuf` at and above `cursor` (`10_state.md` R21). -/
def SameBelowCursor (s t : State) : Prop :=
  { s with rxbuf := [] } = { t with rxbuf := [] } ∧
    ∀ a, a < s.cursor → Memory.read s.rxbuf a = Memory.read t.rxbuf a

/-- The same outcome up to such a difference. -/
def SameOutcome : Out → Out → Prop
  | .next s, .next t => SameBelowCursor s t
  | .fault f, .fault g => f = g
  | .refused q, .refused r => q = r
  | _, _ => False

/-- A step is safe: it does not fault. -/
def SafeStep (s : State) : Prop := ∀ f, step s ≠ .fault f

end Sys2Proof.Machine
end

