-- ==== Sys2Proof/Certificates/Slice0/Obligations.lean ====
section
/-! DEFINITION. The statements for the provers. Each docstring says what the statement claims and which
rules of spec/ it rests on; where a clause is the model's own choice it names the log entry. -/

open Sys2Proof Sys2Proof.Machine

/-- For every parameter record and every well-formed operation of all 48, with every operand at every value
its field admits, decoding the encoded word gives exactly that operation. The byte layout of operands is the
model's choice (log 4); which operands exist, their widths and their order are R80. (30_encoding.md R80,
30_encoding.md R84) -/
def Obligations.DecodeEncodeRoundTrip : Prop :=
  ∀ (p : Params) (i : Instr), i.wellFormed p = true → decode p (encode p i) = .ok i

/-- The other direction: whenever the decoder accepts a word, encoding what it read gives the same word, so
no bit of a word is dropped and no two words mean one operation. The byte layout of operands is the model's
choice (log 4). (30_encoding.md R80, 30_encoding.md R84) -/
def Obligations.WordHasOneMeaning : Prop :=
  ∀ (p : Params) (word : List Byte) (i : Instr), decode p word = .ok i → encode p i = word

/-- When the next request is a word with operation code op, the decoder answers that the code is reserved
exactly for the codes of R85, whatever operand bytes follow, and exactly then the step is the refusal of
that code: no next state and no event. (R85) -/
def Obligations.ReservedCodesRefused : Prop :=
  ∀ (s : State) (op : Byte) (operands : List Byte) (rest : List Request),
    s.port = .operation (op :: operands) :: rest →
    ((op.toNat = 0x00 ∨ (0x09 ≤ op.toNat ∧ op.toNat ≤ 0x0F) ∨ (0x1A ≤ op.toNat ∧ op.toNat ≤ 0x1F) ∨
        (0x2A ≤ op.toNat ∧ op.toNat ≤ 0x2F) ∨ (0x3A ≤ op.toNat ∧ op.toNat ≤ 0x3F) ∨
        (0x4A ≤ op.toNat ∧ op.toNat ≤ 0x4F) ∨ (0x50 ≤ op.toNat ∧ op.toNat ≤ 0xFF)) ↔
      decode s.params (op :: operands) = .error (.reservedOpcode op)) ∧
    (decode s.params (op :: operands) = .error (.reservedOpcode op) ↔
      step s = .refused (.undecodable (.reservedOpcode op)))

/-- When the next request is a word that decodes to operation i, the step is exec of i on the state whose
port has that request taken off and nothing else changed. The port as a list of requests is the model's
choice (log 5). (10_state.md R40, 30_encoding.md R80) -/
def Obligations.StepRunsDecodedOperation : Prop :=
  ∀ (s : State) (word : List Byte) (rest : List Request) (i : Instr),
    s.port = .operation word :: rest → decode s.params word = .ok i →
    step s = exec i { s with port := rest }

/-- A sanity statement: one word of each of the 48 operations, so of every format, written out from the
code map, decodes to its operation on the reference instance, and the word of a reserved code to none. The
byte layout of operands is the model's choice (log 4). (30_encoding.md R80, 30_encoding.md R84) -/
def Obligations.WrittenWordsDecode : Prop :=
  decode Config.reference [0x01] = .ok .rxTick ∧
    decode Config.reference [0x02] = .ok .cfgEnable ∧
    decode Config.reference [0x03] = .ok .cfgDisable ∧
    decode Config.reference [0x04, 0x00, 0x02, 0x31, 0x32] = .ok (.crc16 2 [0x31, 0x32]) ∧
    decode Config.reference [0x05, 0x01, 0x02, 0x00, 0x02, 0x0A, 0x0B] =
      .ok (.txRaw 0x0102 2 [0x0A, 0x0B]) ∧
    decode Config.reference [0x06, 0x12, 0x34] = .ok (.sigUnknownId 0x1234) ∧
    decode Config.reference [0x07] = .ok .sigAck ∧
    decode Config.reference [0x08] = .ok .sigNack ∧
    decode Config.reference [0x10, 0xA5] = .ok (.serU8 0xA5) ∧
    decode Config.reference [0x11, 0xA5] = .ok (.serS8 0xA5) ∧
    decode Config.reference [0x12, 0xBE, 0xEF] = .ok (.serU16 0xBEEF) ∧
    decode Config.reference [0x13, 0xBE, 0xEF] = .ok (.serS16 0xBEEF) ∧
    decode Config.reference [0x14, 0xDE, 0xAD, 0xBE, 0xEF] = .ok (.serU32 0xDEADBEEF) ∧
    decode Config.reference [0x15, 0xDE, 0xAD, 0xBE, 0xEF] = .ok (.serS32 0xDEADBEEF) ∧
    decode Config.reference [0x16, 0x01, 0x23, 0x45, 0x67, 0x89, 0xAB, 0xCD, 0xEF] =
      .ok (.serU64 0x0123456789ABCDEF) ∧
    decode Config.reference [0x17, 0x01, 0x23, 0x45, 0x67, 0x89, 0xAB, 0xCD, 0xEF] =
      .ok (.serS64 0x0123456789ABCDEF) ∧
    decode Config.reference [0x18, 0x40, 0x48, 0xF5, 0xC3] = .ok (.serF32 0x4048F5C3) ∧
    decode Config.reference [0x19, 0x40, 0x09, 0x1E, 0xB8, 0x51, 0xEB, 0x85, 0x1F] =
      .ok (.serF64 0x40091EB851EB851F) ∧
    decode Config.reference [0x20, 0xA5] = .ok (.desU8 [0xA5]) ∧
    decode Config.reference [0x21, 0xA5] = .ok (.desS8 [0xA5]) ∧
    decode Config.reference [0x22, 0xBE, 0xEF] = .ok (.desU16 [0xBE, 0xEF]) ∧
    decode Config.reference [0x23, 0xBE, 0xEF] = .ok (.desS16 [0xBE, 0xEF]) ∧
    decode Config.reference [0x24, 0xDE, 0xAD, 0xBE, 0xEF] = .ok (.desU32 [0xDE, 0xAD, 0xBE, 0xEF]) ∧
    decode Config.reference [0x25, 0xDE, 0xAD, 0xBE, 0xEF] = .ok (.desS32 [0xDE, 0xAD, 0xBE, 0xEF]) ∧
    decode Config.reference [0x26, 0x01, 0x23, 0x45, 0x67, 0x89, 0xAB, 0xCD, 0xEF] =
      .ok (.desU64 [0x01, 0x23, 0x45, 0x67, 0x89, 0xAB, 0xCD, 0xEF]) ∧
    decode Config.reference [0x27, 0x01, 0x23, 0x45, 0x67, 0x89, 0xAB, 0xCD, 0xEF] =
      .ok (.desS64 [0x01, 0x23, 0x45, 0x67, 0x89, 0xAB, 0xCD, 0xEF]) ∧
    decode Config.reference [0x28, 0x40, 0x48, 0xF5, 0xC3] = .ok (.desF32 [0x40, 0x48, 0xF5, 0xC3]) ∧
    decode Config.reference [0x29, 0x40, 0x09, 0x1E, 0xB8, 0x51, 0xEB, 0x85, 0x1F] =
      .ok (.desF64 [0x40, 0x09, 0x1E, 0xB8, 0x51, 0xEB, 0x85, 0x1F]) ∧
    decode Config.reference [0x30, 0xDE, 0xAD, 0xA5] = .ok (.txU8 0xDEAD 0xA5) ∧
    decode Config.reference [0x31, 0xDE, 0xAD, 0xA5] = .ok (.txS8 0xDEAD 0xA5) ∧
    decode Config.reference [0x32, 0xDE, 0xAD, 0xBE, 0xEF] = .ok (.txU16 0xDEAD 0xBEEF) ∧
    decode Config.reference [0x33, 0xDE, 0xAD, 0xBE, 0xEF] = .ok (.txS16 0xDEAD 0xBEEF) ∧
    decode Config.reference [0x34, 0xDE, 0xAD, 0xDE, 0xAD, 0xBE, 0xEF] = .ok (.txU32 0xDEAD 0xDEADBEEF) ∧
    decode Config.reference [0x35, 0xDE, 0xAD, 0xDE, 0xAD, 0xBE, 0xEF] = .ok (.txS32 0xDEAD 0xDEADBEEF) ∧
    decode Config.reference [0x36, 0xDE, 0xAD, 0x01, 0x23, 0x45, 0x67, 0x89, 0xAB, 0xCD, 0xEF] =
      .ok (.txU64 0xDEAD 0x0123456789ABCDEF) ∧
    decode Config.reference [0x37, 0xDE, 0xAD, 0x01, 0x23, 0x45, 0x67, 0x89, 0xAB, 0xCD, 0xEF] =
      .ok (.txS64 0xDEAD 0x0123456789ABCDEF) ∧
    decode Config.reference [0x38, 0xDE, 0xAD, 0x40, 0x48, 0xF5, 0xC3] = .ok (.txF32 0xDEAD 0x4048F5C3) ∧
    decode Config.reference [0x39, 0xDE, 0xAD, 0x40, 0x09, 0x1E, 0xB8, 0x51, 0xEB, 0x85, 0x1F] =
      .ok (.txF64 0xDEAD 0x40091EB851EB851F) ∧
    decode Config.reference [0x40] = .ok .recvU8 ∧
    decode Config.reference [0x41] = .ok .recvS8 ∧
    decode Config.reference [0x42] = .ok .recvU16 ∧
    decode Config.reference [0x43] = .ok .recvS16 ∧
    decode Config.reference [0x44] = .ok .recvU32 ∧
    decode Config.reference [0x45] = .ok .recvS32 ∧
    decode Config.reference [0x46] = .ok .recvU64 ∧
    decode Config.reference [0x47] = .ok .recvS64 ∧
    decode Config.reference [0x48] = .ok .recvF32 ∧
    decode Config.reference [0x49] = .ok .recvF64 ∧
    decode Config.reference [0x4A] = .error (.reservedOpcode 0x4A)

/-- The 256 entries the spec prints are crc_step(0x0000, i), and for every remainder r and byte b,
crc_step(r, b) is trunc_16(r << 8) XOR T[(r >> 8) XOR b]. (R104) -/
def Obligations.CrcTableForm : Prop :=
  crcTable.length = 256 ∧
    (∀ b : Byte, crcTable.getD b.toNat 0 = crcStep 0x0000 b) ∧
    ∀ (r : Word16) (b : Byte),
      crcStep r b = (r <<< 8) ^^^ crcTable.getD (((r >>> 8).setWidth 8 ^^^ b).toNat) 0

/-- For byte sequences of equal length, the checksum of their bytewise XOR is the XOR of their checksums.
(40_crc.md R105 (c)) -/
def Obligations.CrcLinear : Prop :=
  ∀ a b : List Byte, a.length = b.length →
    crc16 (List.zipWith (· ^^^ ·) a b) = crc16 a ^^^ crc16 b

/-- For every byte sequence B, crc16(B ++ be_2(crc16(B))) = 0x0000. (40_crc.md R105 (d)) -/
def Obligations.CrcResidueZero : Prop :=
  ∀ b : List Byte, crc16 (b ++ wireBytes .be 2 (crc16 b).toNat) = 0x0000

/-- Flipping any one bit of any byte of a sequence changes its checksum. (40_crc.md R105 (e)) -/
def Obligations.CrcDetectsSingleBitErrors : Prop :=
  ∀ (before after : List Byte) (b : Byte) (k : Nat), k < 8 →
    crc16 (before ++ b :: after) ≠ crc16 (before ++ (b ^^^ (1#8 <<< k)) :: after)

/-- For every k and B, crc16(0x00^k ++ B) = crc16(B), and an all-zero sequence has checksum 0x0000.
(40_crc.md R105 (f), 40_crc.md R103) -/
def Obligations.CrcIgnoresLeadingZeros : Prop :=
  ∀ (k : Nat) (b : List Byte),
    crc16 (List.replicate k 0x00 ++ b) = crc16 b ∧ crc16 (List.replicate k 0x00) = 0x0000

/-- Seen as a polynomial over GF(2), crc16(B) is the remainder of B(x) * x^16 divided by x^16 + x^12 + x^5 +
1, where B(x) has the bits of B as coefficients, first byte and most significant bit highest. (40_crc.md
R102, 40_crc.md R100) -/
def Obligations.CrcIsPolynomialRemainder : Prop :=
  ∀ b : List Byte,
    bitsPoly (crc16 b) = (messagePoly b * Polynomial.X ^ 16) %ₘ crcPoly

/-- In every state, enabled or not: with at least n bytes the result is OK with the fold of crc_step over
bytes[0..n) from 0x0000, and no state element and no event changes; with fewer bytes it is refused.
(40_crc.md R103, 30_encoding.md R82) -/
def Obligations.Crc16Completes : Prop :=
  ∀ (s : State) (n : Word16) (bytes : List Byte),
    (n.toNat ≤ bytes.length →
      exec (.crc16 n bytes) s =
        .next { s with results := s.results ++ [.ok (.crc ((bytes.take n.toNat).foldl crcStep 0x0000))] }) ∧
    (bytes.length < n.toNat → exec (.crc16 n bytes) s = .refused .shortSpan)

/-- be_N and le_N are the index formulas of R50 and reverses of each other, enc_N chooses by BYTE_ORDER,
dec_N is the sum of R50, both round trips hold, one byte is the same in both orders, and the worked example
holds. (R50) -/
def Obligations.ByteOrderFunctions : Prop :=
  (∀ n v : Nat, 1 ≤ n → v < 2 ^ (8 * n) →
      beBytes n v = (List.range n).map (fun i => BitVec.ofNat 8 ((v >>> (8 * (n - 1 - i))) &&& 0xFF)) ∧
      leBytes n v = (List.range n).map (fun i => BitVec.ofNat 8 ((v >>> (8 * i)) &&& 0xFF)) ∧
      leBytes n v = (beBytes n v).reverse ∧
      enc .be n v = beBytes n v ∧ enc .le n v = leBytes n v ∧
      ∀ o, dec o (enc o n v) = v) ∧
    (∀ bs : List Byte, 1 ≤ bs.length →
      dec .be bs = ∑ i ∈ Finset.range bs.length, (bs.getD i 0).toNat * 2 ^ (8 * (bs.length - 1 - i)) ∧
      dec .le bs = ∑ i ∈ Finset.range bs.length, (bs.getD i 0).toNat * 2 ^ (8 * i) ∧
      ∀ o, enc o bs.length (dec o bs) = bs) ∧
    (∀ (o : ByteOrder) (b : Byte), enc o 1 b.toNat = [b]) ∧
    beBytes 2 0xBEEF = [0xBE, 0xEF] ∧ leBytes 2 0xBEEF = [0xEF, 0xBE] ∧
    beBytes 4 0x4048F5C3 = [0x40, 0x48, 0xF5, 0xC3]

/-- For all ten types, in every state, on every bit pattern: the result is OK with exactly width(t) bytes,
byte i being the one R50 gives, and every other state element, every byte of rxbuf and the events are
unchanged. (41_codec.md R112, 41_codec.md R113, 41_codec.md R114, 41_codec.md R115, 41_codec.md R116,
41_codec.md R117, 41_codec.md R118, 41_codec.md R119, 41_codec.md R120, 41_codec.md R121, 41_codec.md R110)
-/
def Obligations.SerializeCompletes : Prop :=
  ∀ s : State,
    (∀ v, exec (.serU8 v) s =
      .next { s with results := s.results ++
        [.ok (.bytes (wireBytes s.params.byteOrder 1 v.toNat))] }) ∧
    (∀ v, exec (.serS8 v) s =
      .next { s with results := s.results ++
        [.ok (.bytes (wireBytes s.params.byteOrder 1 v.toNat))] }) ∧
    (∀ v, exec (.serU16 v) s =
      .next { s with results := s.results ++
        [.ok (.bytes (wireBytes s.params.byteOrder 2 v.toNat))] }) ∧
    (∀ v, exec (.serS16 v) s =
      .next { s with results := s.results ++
        [.ok (.bytes (wireBytes s.params.byteOrder 2 v.toNat))] }) ∧
    (∀ v, exec (.serU32 v) s =
      .next { s with results := s.results ++
        [.ok (.bytes (wireBytes s.params.byteOrder 4 v.toNat))] }) ∧
    (∀ v, exec (.serS32 v) s =
      .next { s with results := s.results ++
        [.ok (.bytes (wireBytes s.params.byteOrder 4 v.toNat))] }) ∧
    (∀ v, exec (.serU64 v) s =
      .next { s with results := s.results ++
        [.ok (.bytes (wireBytes s.params.byteOrder 8 v.toNat))] }) ∧
    (∀ v, exec (.serS64 v) s =
      .next { s with results := s.results ++
        [.ok (.bytes (wireBytes s.params.byteOrder 8 v.toNat))] }) ∧
    (∀ v, exec (.serF32 v) s =
      .next { s with results := s.results ++
        [.ok (.bytes (wireBytes s.params.byteOrder 4 v.toNat))] }) ∧
    (∀ v, exec (.serF64 v) s =
      .next { s with results := s.results ++
        [.ok (.bytes (wireBytes s.params.byteOrder 8 v.toNat))] })

/-- For all ten types, in every state, on every byte sequence of width(t) bytes: the result is OK with the
pattern whose value is the sum R50 gives, and every other state element, every byte of rxbuf and the events
are unchanged. (41_codec.md R122, 41_codec.md R123, 41_codec.md R124, 41_codec.md R125, 41_codec.md R126,
41_codec.md R127, 41_codec.md R128, 41_codec.md R129, 41_codec.md R130, 41_codec.md R131, 41_codec.md R111)
-/
def Obligations.DeserializeCompletes : Prop :=
  ∀ (s : State) (bs : List Byte),
    (bs.length = 1 → exec (.desU8 bs) s =
      .next { s with results := s.results ++
        [.ok (.pattern .u8 (BitVec.ofNat 8 (wireNat s.params.byteOrder bs)))] }) ∧
    (bs.length = 1 → exec (.desS8 bs) s =
      .next { s with results := s.results ++
        [.ok (.pattern .s8 (BitVec.ofNat 8 (wireNat s.params.byteOrder bs)))] }) ∧
    (bs.length = 2 → exec (.desU16 bs) s =
      .next { s with results := s.results ++
        [.ok (.pattern .u16 (BitVec.ofNat 16 (wireNat s.params.byteOrder bs)))] }) ∧
    (bs.length = 2 → exec (.desS16 bs) s =
      .next { s with results := s.results ++
        [.ok (.pattern .s16 (BitVec.ofNat 16 (wireNat s.params.byteOrder bs)))] }) ∧
    (bs.length = 4 → exec (.desU32 bs) s =
      .next { s with results := s.results ++
        [.ok (.pattern .u32 (BitVec.ofNat 32 (wireNat s.params.byteOrder bs)))] }) ∧
    (bs.length = 4 → exec (.desS32 bs) s =
      .next { s with results := s.results ++
        [.ok (.pattern .s32 (BitVec.ofNat 32 (wireNat s.params.byteOrder bs)))] }) ∧
    (bs.length = 8 → exec (.desU64 bs) s =
      .next { s with results := s.results ++
        [.ok (.pattern .u64 (BitVec.ofNat 64 (wireNat s.params.byteOrder bs)))] }) ∧
    (bs.length = 8 → exec (.desS64 bs) s =
      .next { s with results := s.results ++
        [.ok (.pattern .s64 (BitVec.ofNat 64 (wireNat s.params.byteOrder bs)))] }) ∧
    (bs.length = 4 → exec (.desF32 bs) s =
      .next { s with results := s.results ++
        [.ok (.pattern .f32 (BitVec.ofNat 32 (wireNat s.params.byteOrder bs)))] }) ∧
    (bs.length = 8 → exec (.desF64 bs) s =
      .next { s with results := s.results ++
        [.ok (.pattern .f64 (BitVec.ofNat 64 (wireNat s.params.byteOrder bs)))] })

/-- For all ten types, in every state: a byte sequence of another length than width(t) is no operand and is
refused. (41_codec.md R135, 93_implementation_defined.md U3) -/
def Obligations.DeserializeWrongWidthRefused : Prop :=
  ∀ (s : State) (bs : List Byte),
    (bs.length ≠ 1 → exec (.desU8 bs) s = .refused .wrongWidth) ∧
    (bs.length ≠ 1 → exec (.desS8 bs) s = .refused .wrongWidth) ∧
    (bs.length ≠ 2 → exec (.desU16 bs) s = .refused .wrongWidth) ∧
    (bs.length ≠ 2 → exec (.desS16 bs) s = .refused .wrongWidth) ∧
    (bs.length ≠ 4 → exec (.desU32 bs) s = .refused .wrongWidth) ∧
    (bs.length ≠ 4 → exec (.desS32 bs) s = .refused .wrongWidth) ∧
    (bs.length ≠ 8 → exec (.desU64 bs) s = .refused .wrongWidth) ∧
    (bs.length ≠ 8 → exec (.desS64 bs) s = .refused .wrongWidth) ∧
    (bs.length ≠ 4 → exec (.desF32 bs) s = .refused .wrongWidth) ∧
    (bs.length ≠ 8 → exec (.desF64 bs) s = .refused .wrongWidth)

/-- For every type and bit pattern, executing SER.t and then DES.t on the bytes it returned returns the
pattern; for every byte sequence of width(t) bytes, executing DES.t and then SER.t on the pattern returns
the bytes. (41_codec.md R132, 41_codec.md R135) -/
def Obligations.CodecRoundTrip : Prop :=
  (∀ (s : State) (t : ValType) (v : BitVec t.bits),
      ∃ bs s', bs.length = t.width ∧ exec (Instr.ser t v) s = .next s' ∧
        s'.results = s.results ++ [.ok (.bytes bs)] ∧
        exec (Instr.des t bs) s' = .next { s' with results := s'.results ++ [.ok (.pattern t v)] }) ∧
    (∀ (s : State) (t : ValType) (bs : List Byte), bs.length = t.width →
      ∃ v s', exec (Instr.des t bs) s = .next s' ∧ s'.results = s.results ++ [.ok (.pattern t v)] ∧
        exec (Instr.ser t v) s' = .next { s' with results := s'.results ++ [.ok (.bytes bs)] })

/-- Two states with the same BYTE_ORDER and any other state, enabled or not, get the same result from every
SER.t and DES.t, and neither state changes but for the result. (R136) -/
def Obligations.CodecDependsOnByteOrderOnly : Prop :=
  ∀ s₁ s₂ : State, s₁.params.byteOrder = s₂.params.byteOrder →
    (∀ (t : ValType) (v : BitVec t.bits), ∃ r,
      exec (Instr.ser t v) s₁ = .next { s₁ with results := s₁.results ++ [r] } ∧
      exec (Instr.ser t v) s₂ = .next { s₂ with results := s₂.results ++ [r] }) ∧
    (∀ (t : ValType) (bs : List Byte), bs.length = t.width → ∃ r,
      exec (Instr.des t bs) s₁ = .next { s₁ with results := s₁.results ++ [r] } ∧
      exec (Instr.des t bs) s₂ = .next { s₂ with results := s₂.results ++ [r] })

/-- For a payload of at most MAX_PAYLOAD bytes the built frame is IDENTIFIER, one LENGTH byte with the
payload length, the payload bytes and the 2-byte checksum of everything before it, each multi-byte field in
BYTE_ORDER. (43_tx_builder.md R170, 30_encoding.md R70, 20_memory.md R53, 30_encoding.md R72, 30_encoding.md
R74) -/
def Obligations.BuiltFrameLayout : Prop :=
  ∀ (p : Params) (id : Ident) (payload : List Byte), payload.length ≤ p.maxPayload.val →
    let f := buildFrame p id payload
    f.length = p.idBytes + 1 + payload.length + 2 ∧
      f.take p.idBytes = wireBytes p.byteOrder p.idBytes id.toNat ∧
      f.getD p.idBytes 0 = BitVec.ofNat 8 payload.length ∧
      (f.getD p.idBytes 0).toNat = payload.length ∧
      (f.drop (p.idBytes + 1)).take payload.length = payload ∧
      f.drop (p.idBytes + 1 + payload.length) =
        wireBytes p.byteOrder 2 (crc16 (f.take (p.idBytes + 1 + payload.length))).toNat

/-- For every identifier, reserved or not: with enough bytes the operation completes, adds exactly the sink
event of the frame of the first min(n, MAX_PAYLOAD) bytes when enabled and nothing when disabled, and
changes nothing else (no receive state, no byte of rxbuf, no result); with fewer bytes it is refused.
(43_tx_builder.md R172, 43_tx_builder.md R171, 30_encoding.md R73, 30_encoding.md R82) -/
def Obligations.TransmitRawCompletes : Prop :=
  ∀ (s : State) (id : Ident) (n : Word16) (bytes : List Byte), id.toNat ≤ s.params.idMax →
    (min n.toNat s.params.maxPayload.val ≤ bytes.length →
      exec (.txRaw id n bytes) s =
        .next { s with events := s.transmitted id (bytes.take n.toNat) }) ∧
    (bytes.length < min n.toNat s.params.maxPayload.val →
      exec (.txRaw id n bytes) s = .refused .shortSpan)

/-- For all ten types, every identifier and every bit pattern: when enabled exactly one sink event is added,
the frame of the first MAX_PAYLOAD bytes of the value in BYTE_ORDER; when disabled none; nothing else
changes, no byte of rxbuf and no receive state among it. (43_tx_builder.md R173, 43_tx_builder.md R174,
43_tx_builder.md R175, 43_tx_builder.md R176, 43_tx_builder.md R177, 43_tx_builder.md R178, 43_tx_builder.md
R179, 43_tx_builder.md R180, 43_tx_builder.md R181, 43_tx_builder.md R182, 43_tx_builder.md R171) -/
def Obligations.TransmitTypedCompletes : Prop :=
  ∀ (s : State) (id : Ident), id.toNat ≤ s.params.idMax →
    (∀ v, exec (.txU8 id v) s =
      .next { s with events :=
        s.transmitted id (wireBytes s.params.byteOrder 1 v.toNat) }) ∧
    (∀ v, exec (.txS8 id v) s =
      .next { s with events :=
        s.transmitted id (wireBytes s.params.byteOrder 1 v.toNat) }) ∧
    (∀ v, exec (.txU16 id v) s =
      .next { s with events :=
        s.transmitted id (wireBytes s.params.byteOrder 2 v.toNat) }) ∧
    (∀ v, exec (.txS16 id v) s =
      .next { s with events :=
        s.transmitted id (wireBytes s.params.byteOrder 2 v.toNat) }) ∧
    (∀ v, exec (.txU32 id v) s =
      .next { s with events :=
        s.transmitted id (wireBytes s.params.byteOrder 4 v.toNat) }) ∧
    (∀ v, exec (.txS32 id v) s =
      .next { s with events :=
        s.transmitted id (wireBytes s.params.byteOrder 4 v.toNat) }) ∧
    (∀ v, exec (.txU64 id v) s =
      .next { s with events :=
        s.transmitted id (wireBytes s.params.byteOrder 8 v.toNat) }) ∧
    (∀ v, exec (.txS64 id v) s =
      .next { s with events :=
        s.transmitted id (wireBytes s.params.byteOrder 8 v.toNat) }) ∧
    (∀ v, exec (.txF32 id v) s =
      .next { s with events :=
        s.transmitted id (wireBytes s.params.byteOrder 4 v.toNat) }) ∧
    (∀ v, exec (.txF64 id v) s =
      .next { s with events :=
        s.transmitted id (wireBytes s.params.byteOrder 8 v.toNat) })

/-- TX.t(id, x) is exactly TX.RAW(id, width(t), ser(t, x)) in every state, and with legal parameters each of
SIG.ACK, SIG.NACK and SIG.UNKNOWN_ID is exactly TX.RAW with its fixed identifier behind the
error_reply_enabled gate. (30_encoding.md R87, 44_signals.md R190) -/
def Obligations.PseudoOperationsExpand : Prop :=
  (∀ (s : State) (t : ValType) (id : Ident) (v : BitVec t.bits),
      exec (Instr.tx t id v) s =
        exec (.txRaw id (BitVec.ofNat 16 t.width) (ser s.params.byteOrder t v)) s) ∧
    ∀ s : State, s.params.legal = true →
      (exec .sigAck s =
        if s.cfg.errorReplyEnabled = true then exec (.txRaw s.params.sigAck 0 []) s else .next s) ∧
      (exec .sigNack s =
        if s.cfg.errorReplyEnabled = true then exec (.txRaw s.params.sigNack 0 []) s else .next s) ∧
      ∀ id : Ident, id.toNat ≤ s.params.idMax →
        exec (.sigUnknownId id) s =
          if s.cfg.errorReplyEnabled = true then
            exec (.txRaw s.params.sigUnknownId (BitVec.ofNat 16 s.params.idBytes) (encId s.params id)) s
          else .next s

/-- If every frame sent so far is valid (its length is H + LENGTH + 2, between OVERHEAD and CAP, its LENGTH
at most MAX_PAYLOAD, its last two bytes the checksum of the rest), then so is every frame sent after a step,
in every state, legal or not. (43_tx_builder.md R183, 10_state.md R37) -/
def Obligations.EmittedFramesValid : Prop :=
  ∀ s t : State, (∀ f, .sink f ∈ s.events → ValidFrame s.params f) → step s = .next t →
    ∀ f, .sink f ∈ t.events → ValidFrame t.params f

/-- The spec has no such operand (U6: unrepresentable). In the model a term with an identifier above ID_MAX
can be written when ID_W = 1, and every operation that takes an identifier refuses it by name: the model's
choice (log 10). (93_implementation_defined.md U6, 30_encoding.md R83) -/
def Obligations.WideIdentifierRefused : Prop :=
  ∀ (s : State) (id : Ident), s.params.idMax < id.toNat →
    (∀ n bytes, exec (.txRaw id n bytes) s = .refused .identifierTooWide) ∧
    exec (.sigUnknownId id) s = .refused .identifierTooWide ∧
    (∀ v, exec (.txU8 id v) s = .refused .identifierTooWide) ∧
    (∀ v, exec (.txS8 id v) s = .refused .identifierTooWide) ∧
    (∀ v, exec (.txU16 id v) s = .refused .identifierTooWide) ∧
    (∀ v, exec (.txS16 id v) s = .refused .identifierTooWide) ∧
    (∀ v, exec (.txU32 id v) s = .refused .identifierTooWide) ∧
    (∀ v, exec (.txS32 id v) s = .refused .identifierTooWide) ∧
    (∀ v, exec (.txU64 id v) s = .refused .identifierTooWide) ∧
    (∀ v, exec (.txS64 id v) s = .refused .identifierTooWide) ∧
    (∀ v, exec (.txF32 id v) s = .refused .identifierTooWide) ∧
    (∀ v, exec (.txF64 id v) s = .refused .identifierTooWide)

/-- In every state each of the three signal operations completes, adds exactly one sink event with its frame
(no payload, or the identifier operand laid out in ID_W bytes) when cfg.error_reply_enabled and cfg.enabled
are both 1 and nothing otherwise, and changes nothing else. (44_signals.md R194, 44_signals.md R195,
44_signals.md R196, 44_signals.md R190) -/
def Obligations.SignalOperationsComplete : Prop :=
  ∀ s : State,
    exec .sigAck s = .next { s with events := s.signalled s.params.sigAck [] } ∧
    exec .sigNack s = .next { s with events := s.signalled s.params.sigNack [] } ∧
    ∀ id : Ident, id.toNat ≤ s.params.idMax →
      exec (.sigUnknownId id) s =
        .next { s with
          events := (s.signalled s.params.sigUnknownId
            (wireBytes s.params.byteOrder s.params.idBytes id.toNat)) }

/-- TX.RAW with any identifier, reserved ones included, emits the same events whatever
cfg.error_reply_enabled is. (44_signals.md R199, 30_encoding.md R77) -/
def Obligations.RawTransmitIgnoresReplyGate : Prop :=
  ∀ (s : State) (reply : Bool) (id : Ident) (n : Word16) (bytes : List Byte),
    id.toNat ≤ s.params.idMax → min n.toNat s.params.maxPayload.val ≤ bytes.length →
    ∃ t u : State, exec (.txRaw id n bytes) s = .next t ∧
      exec (.txRaw id n bytes) { s with cfg := { s.cfg with errorReplyEnabled := reply } } = .next u ∧
      u.events = t.events

/-- The shared operation that handles an error does, for each of the five classes, exactly what its row
says: the cursor is reset for ChecksumMismatch and FrameTimeout only, the signal frame has the class's
identifier and the offending identifier as payload where it has one, an overrun overwrites the last slot and
sends nothing, and nothing else changes. (60_exceptions.md R221, 60_exceptions.md R222, 60_exceptions.md
R223, 60_exceptions.md R224, 60_exceptions.md R226) -/
def Obligations.RaisedErrorsSignalTheirCode : Prop :=
  ∀ s : State,
    raise .checksumMismatch s = { s with cursor := 0, events := s.signalled s.params.sigChecksum [] } ∧
    raise .frameTimeout s = { s with cursor := 0, events := s.signalled s.params.sigTimeout [] } ∧
    (∀ id, raise (.lengthMismatch id) s =
      { s with
        events := (s.signalled s.params.sigLength
          (wireBytes s.params.byteOrder s.params.idBytes id.toNat)) }) ∧
    (∀ id, raise (.unknownIdentifier id) s =
      { s with
        events := (s.signalled s.params.sigUnknownId
          (wireBytes s.params.byteOrder s.params.idBytes id.toNat)) }) ∧
    ∀ b, raise (.bufferOverrun b) s = { s with rxbuf := Memory.write s.rxbuf (s.params.cap - 1) b }

/-- With cfg.enabled = 0 the state after RX.TICK is the state before it: the byte source keeps its answers,
the tick source is not sampled, no state element changes and no event is emitted. (R141) -/
def Obligations.DisabledTickDoesNothing : Prop :=
  ∀ s : State, s.cfg.enabled = false → exec .rxTick s = .next s

/-- On an enabled channel, a polled byte that leaves the frame incomplete (fewer than H bytes, or not
exactly H + Lc + 2 with Lc the clamped LENGTH byte) is written at index cursor, which goes up by one (at
capacity: at CAP - 1, the cursor staying), last_activity becomes the sample, one answer and one sample are
consumed, and nothing else changes: no timeout fires and no event is emitted. (42_rx_assembler.md R142,
42_rx_assembler.md R143, 42_rx_assembler.md R144, 60_exceptions.md R224) -/
def Obligations.AcceptedByteStored : Prop :=
  ∀ (s : State) (b : Byte), s.cfg.enabled = true → s.rxIn = some b → s.cursor ≤ s.params.cap →
    let u := s.withByte b
    let lc := min (Memory.read u.rxbuf s.params.idBytes).toNat s.params.maxPayload.val
    (u.cursor < s.params.idBytes + 1 ∨ u.cursor ≠ s.params.idBytes + 1 + lc + 2) →
      exec .rxTick s = .next u

/-- When the stored byte makes the cursor H + Lc + 2 and the checksum computed over the first H + Lc bytes
equals the one parsed from the next two, the frame registers are written together (clamped length, zero
fill, received checksum), exactly one Handler event is emitted whatever the identifier is, the cursor is 0,
and nothing else changes. (42_rx_assembler.md R145, 42_rx_assembler.md R152, 10_state.md R24, 10_state.md
R25, 10_state.md R26, 10_state.md R27, 10_state.md R39) -/
def Obligations.ValidFrameDelivered : Prop :=
  ∀ (s : State) (b : Byte), s.cfg.enabled = true → s.rxIn = some b → s.cursor ≤ s.params.cap →
    let u := s.withByte b
    let lc := min (Memory.read u.rxbuf s.params.idBytes).toNat s.params.maxPayload.val
    let h := s.params.idBytes + 1
    let id := BitVec.ofNat 16 (wireNat s.params.byteOrder (u.memRead 0 s.params.idBytes))
    let crc := crc16 (u.memRead 0 (h + lc))
    u.cursor = h + lc + 2 → crc.toNat = wireNat s.params.byteOrder (u.memRead (h + lc) 2) →
      exec .rxTick s = .next { u with
        cursor := 0
        rxfId := id
        rxfLen := lc
        rxfPayload := u.memRead h lc ++ List.replicate (s.params.maxPayload.val - lc) 0x00
        rxfCrc := crc
        rxfValid := true
        events := s.events ++ [.handler id lc (u.memRead h lc) crc] }

/-- When the stored byte completes a frame whose computed and received checksums differ, the cursor is 0,
the checksum-mismatch signal is sent when error_reply_enabled is 1, the handler is not invoked, the frame
registers keep their values and nothing else changes. (42_rx_assembler.md R146, 60_exceptions.md R221,
44_signals.md R191) -/
def Obligations.ChecksumMismatchResetsBuffer : Prop :=
  ∀ (s : State) (b : Byte), s.cfg.enabled = true → s.rxIn = some b → s.cursor ≤ s.params.cap →
    let u := s.withByte b
    let lc := min (Memory.read u.rxbuf s.params.idBytes).toNat s.params.maxPayload.val
    let h := s.params.idBytes + 1
    u.cursor = h + lc + 2 →
    (crc16 (u.memRead 0 (h + lc))).toNat ≠ wireNat s.params.byteOrder (u.memRead (h + lc) 2) →
      exec .rxTick s =
        .next { u with cursor := 0, events := s.signalled s.params.sigChecksum [] }

/-- On an enabled channel a NONE answer leaves everything but the consumed inputs unchanged, unless the
buffer is non-empty and now - last_activity modulo 2^TICK_W is strictly greater than idle_timeout: then the
cursor is 0 and the timeout signal is sent when error_reply_enabled is 1; last_activity, rxbuf and the frame
registers are unchanged either way. (42_rx_assembler.md R147, 60_exceptions.md R222, 44_signals.md R192,
10_state.md R30, 70_reset_and_hazards.md R262) -/
def Obligations.IdleTickTimesOutStrictly : Prop :=
  ∀ s : State, s.cfg.enabled = true → s.rxIn = none →
    let u := { s with source := s.source.tail, ticks := s.ticks.tail, tickIndex := s.tickIndex + 1 }
    let elapsed := ((s.now : Int) - (s.lastActivity : Int)) % ((2 ^ s.params.tickW : Nat) : Int)
    ((s.cursor ≠ 0 ∧ (s.cfg.idleTimeout : Int) < elapsed) →
      exec .rxTick s = .next { u with cursor := 0, events := s.signalled s.params.sigTimeout [] }) ∧
    (¬(s.cursor ≠ 0 ∧ (s.cfg.idleTimeout : Int) < elapsed) → exec .rxTick s = .next u)

/-- The transition function is total on every state with 0 ≤ cursor ≤ CAP. In a state the spec does not
have, with the cursor above CAP, an accepted byte would lie outside rxbuf and the model faults (log 11).
(42_rx_assembler.md R143, 20_memory.md R52) -/
def Obligations.TickCompletesUpToCapacity : Prop :=
  ∀ s : State,
    (s.cursor ≤ s.params.cap → ∃ t, exec .rxTick s = .next t) ∧
    (s.params.cap < s.cursor → s.cfg.enabled = true → (∃ b, s.rxIn = some b) →
      exec .rxTick s = .fault .rxbufOutOfRange)

/-- An RX.TICK adds no event or exactly one: a Handler or the checksum-mismatch signal on an invocation that
polled a byte, or the timeout signal on one that did not; and it takes at most one answer off the byte
source. (42_rx_assembler.md R148, 20_memory.md R59, 10_state.md R36) -/
def Obligations.OneEventPerTick : Prop :=
  ∀ s t : State, exec .rxTick s = .next t →
    (t.events = s.events ∨ ∃ e, t.events = s.events ++ [e] ∧
      ((∃ id len payload crc, e = .handler id len payload crc ∧ s.rxIn.isSome = true) ∨
        (s.rxIn.isSome = true ∧ e = .sink (wireFrame s.params s.params.sigChecksum [])) ∨
        (s.rxIn.isSome = false ∧ e = .sink (wireFrame s.params s.params.sigTimeout [])))) ∧
    (t.source = s.source ∨ t.source = s.source.tail)

/-- In a state whose memory is in canonical form: the only address an RX.TICK can store to is cursor (CAP -
1 at capacity); every other address reads as before; an accepted byte is read back there; without an
accepted byte every address reads as before. (42_rx_assembler.md R143, 20_memory.md R52, 20_memory.md R56)
-/
def Obligations.TickWritesOneBufferByte : Prop :=
  ∀ s t : State, Memory.wf s.rxbuf = true → exec .rxTick s = .next t →
    let a := if s.cursor = s.params.cap then s.params.cap - 1 else s.cursor
    (∀ i, i ≠ a → Memory.read t.rxbuf i = Memory.read s.rxbuf i) ∧
    (∀ b, s.cfg.enabled = true → s.rxIn = some b → Memory.read t.rxbuf a = b) ∧
    ((s.cfg.enabled = false ∨ s.rxIn = none) →
      ∀ i, Memory.read t.rxbuf i = Memory.read s.rxbuf i)

/-- For an enabled instance with an empty buffer and any frame it can build itself: feeding the frame's
bytes one per RX.TICK, with NONE ticks interleaved anywhere and no silence longer than idle_timeout, emits
nothing until the last byte, whose RX.TICK emits exactly the Handler event of that frame, writes the frame
registers with it and ends with cursor 0. (42_rx_assembler.md R153, 42_rx_assembler.md R149) -/
def Obligations.LoopBackDelivers : Prop :=
  ∀ (s : State) (id : Ident) (payload : List Byte) (before : Script) (b : Byte) (n : Nat),
    s.cfg.enabled = true → s.cursor = 0 → Memory.wf s.rxbuf = true →
    id.toNat ≤ s.params.idMax → payload.length ≤ s.params.maxPayload.val →
    (before ++ [(some b, n)]).filterMap (fun x => x.1) = buildFrame s.params id payload →
    Prompt s.params.tickW s.cfg.idleTimeout none (before ++ [(some b, n)]) →
    let crc := crc16 (frameBody s.params id payload)
    ∃ u v : State,
      runTicks before.length (s.fed (before ++ [(some b, n)])) = .next u ∧ u.events = s.events ∧
      exec .rxTick u = .next v ∧
      v.events = s.events ++ [.handler id payload.length payload crc] ∧ v.cursor = 0 ∧
      v.rxfId = id ∧ v.rxfLen = payload.length ∧ v.rxfCrc = crc ∧ v.rxfValid = true ∧
      v.rxfPayload = payload ++ List.replicate (s.params.maxPayload.val - payload.length) 0x00

/-- For an enabled, empty instance fed, without timeouts, a frame it could have built with exactly one bit
flipped in the IDENTIFIER, PAYLOAD or CHECKSUM field: nothing happens until the last byte, which gives
ChecksumMismatch: no handler invocation, the signal when error replies are on, cursor 0, frame registers
unchanged. (42_rx_assembler.md R155, 70_reset_and_hazards.md R268, 40_crc.md R105 (e)) -/
def Obligations.SingleBitCorruptionRejected : Prop :=
  ∀ (s : State) (id : Ident) (payload f : List Byte) (j k : Nat) (before : Script) (b : Byte) (n : Nat),
    s.cfg.enabled = true → s.cursor = 0 → Memory.wf s.rxbuf = true →
    payload.length ≤ s.params.maxPayload.val → f = buildFrame s.params id payload →
    j < f.length → j ≠ s.params.idBytes → k < 8 →
    (before ++ [(some b, n)]).filterMap (fun x => x.1) = f.set j (f.getD j 0 ^^^ (1#8 <<< k)) →
    Prompt s.params.tickW s.cfg.idleTimeout none (before ++ [(some b, n)]) →
    ∃ u v : State,
      runTicks before.length (s.fed (before ++ [(some b, n)])) = .next u ∧ u.events = s.events ∧
      exec .rxTick u = .next v ∧ v.events = s.signalled s.params.sigChecksum [] ∧ v.cursor = 0 ∧
      v.rxfId = s.rxfId ∧ v.rxfLen = s.rxfLen ∧ v.rxfPayload = s.rxfPayload ∧ v.rxfCrc = s.rxfCrc ∧
      v.rxfValid = s.rxfValid

/-- In either identifier width and byte order the frame with identifier 0 and an empty payload is OVERHEAD
bytes of 0x00. (42_rx_assembler.md R156, 70_reset_and_hazards.md R263) -/
def Obligations.ZeroBytesAreAFrame : Prop :=
  ∀ p : Params, buildFrame p 0 [] = List.replicate p.overhead 0x00

/-- From a state that meets the invariant, an RX.TICK leads from one of Empty, Accumulating,
AwaitingPayloadAndCrc to one of them, each transition happening exactly on its trigger: Empty to
Accumulating on an accepted byte and never straight to AwaitingPayloadAndCrc; Accumulating to
AwaitingPayloadAndCrc on byte number H and to Empty on idle timeout; AwaitingPayloadAndCrc to Empty on byte
number T (through Complete, which exists only inside the operation) or on idle timeout, and never back to
Accumulating. (10_state.md R31, 10_state.md R35, 42_rx_assembler.md R147) -/
def Obligations.ReceiveStateTransitions : Prop :=
  ∀ s t : State, s.Safe → exec .rxTick s = .next t →
    let byte := s.cfg.enabled = true ∧ s.rxIn.isSome = true
    let timeout := s.cfg.enabled = true ∧ s.rxIn = none ∧
      (s.cfg.idleTimeout : Int) < ((s.now : Int) - (s.lastActivity : Int)) % ((2 ^ s.params.tickW : Nat) : Int)
    ∃ a c : RxState, s.rxState = some a ∧ t.rxState = some c ∧ a ≠ .complete ∧ c ≠ .complete ∧
      (a = .empty → (c = .accumulating ↔ byte) ∧ c ≠ .awaitingPayloadAndCrc) ∧
      (a = .accumulating → (c = .awaitingPayloadAndCrc ↔ byte ∧ s.cursor + 1 = s.params.hdr) ∧
        (c = .empty ↔ timeout)) ∧
      (a = .awaitingPayloadAndCrc → (c = .empty ↔ byte ∧ s.cursor + 1 = s.frameTotal ∨ timeout) ∧
        c ≠ .accumulating)

/-- Two states in canonical memory form that differ at most in the bytes of rxbuf at and above the cursor
have the same step: the same kind of outcome, the same reason for a stop, and next states that again differ
at most there. So what an unwritten address reads as (the model's choice, log 3) can never be observed.
(10_state.md R21, 93_implementation_defined.md U20) -/
def Obligations.StaleBufferUnobservable : Prop :=
  ∀ s t : State, Memory.wf s.rxbuf = true → Memory.wf t.rxbuf = true → SameBelowCursor s t →
    SameOutcome (step s) (step t)

/-- A step only appends to the records of events and results, at most one of each, and with any other
records in the state it does exactly the same: the records (the model's form of the output ports, log 8) are
no hidden state. (10_state.md R33, 10_state.md R40, 20_memory.md R59) -/
def Obligations.OutputsAreWriteOnly : Prop :=
  ∀ s t : State, step s = .next t →
    ∃ es rs, es.length ≤ 1 ∧ rs.length ≤ 1 ∧ t.events = s.events ++ es ∧ t.results = s.results ++ rs ∧
      ∀ es₀ rs₀, step { s with events := es₀, results := rs₀ } =
        .next { t with events := es₀ ++ es, results := rs₀ ++ rs }

/-- An operation other than RX.TICK that completes leaves the receive buffer, the cursor, the timestamp, the
frame registers and the inputs as they were, every byte of rxbuf reading as before; CRC16, SER.t, DES.t and
CFG.* emit no event, and TX.*, SIG.* and CFG.* return no result. (10_state.md R41, 10_state.md R24,
44_signals.md R197, 45_typed_rx.md R212) -/
def Obligations.AccessTable : Prop :=
  ∀ (i : Instr) (s t : State), i ≠ .rxTick → exec i s = .next t →
    t.rxbuf = s.rxbuf ∧ (∀ a, Memory.read t.rxbuf a = Memory.read s.rxbuf a) ∧ t.cursor = s.cursor ∧
      t.lastActivity = s.lastActivity ∧ t.rxfId = s.rxfId ∧ t.rxfLen = s.rxfLen ∧
      t.rxfPayload = s.rxfPayload ∧ t.rxfCrc = s.rxfCrc ∧ t.rxfValid = s.rxfValid ∧
      t.source = s.source ∧ t.ticks = s.ticks ∧ t.tickIndex = s.tickIndex ∧ t.port = s.port ∧
      t.params = s.params ∧
      (((∃ n bytes, i = .crc16 n bytes) ∨ (∃ ty v, i = Instr.ser ty v) ∨ (∃ ty bs, i = Instr.des ty bs) ∨
        i = .cfgEnable ∨ i = .cfgDisable) → t.events = s.events) ∧
      (((∃ id n bytes, i = .txRaw id n bytes) ∨ (∃ ty id v, i = Instr.tx ty id v) ∨
        (∃ id, i = .sigUnknownId id) ∨ i = .sigAck ∨ i = .sigNack ∨ i = .cfgEnable ∨ i = .cfgDisable) →
        t.results = s.results)

/-- Every operation that completes keeps cfg.idle_timeout, cfg.error_reply_enabled and every parameter, and
every one but CFG.ENABLE and CFG.DISABLE keeps all of cfg; a step other than a reset does the same. (R218)
-/
def Obligations.ConfigImmutable : Prop :=
  (∀ (i : Instr) (s t : State), exec i s = .next t →
      t.params = s.params ∧ t.cfg.idleTimeout = s.cfg.idleTimeout ∧
        t.cfg.errorReplyEnabled = s.cfg.errorReplyEnabled ∧
        (i ≠ .cfgEnable → i ≠ .cfgDisable → t.cfg = s.cfg)) ∧
    ∀ s t : State, step s = .next t →
      t.params = s.params ∧
        ((∀ rest, s.port ≠ .reset :: rest) →
          t.cfg.idleTimeout = s.cfg.idleTimeout ∧ t.cfg.errorReplyEnabled = s.cfg.errorReplyEnabled)

/-- For all ten types, enabled or not: with a frame held whose length is width(t), the result is OK with the
pattern of the first width(t) payload bytes in BYTE_ORDER, no event is emitted and no state element changes.
(45_typed_rx.md R202, 45_typed_rx.md R203, 45_typed_rx.md R204, 45_typed_rx.md R205, 45_typed_rx.md R206,
45_typed_rx.md R207, 45_typed_rx.md R208, 45_typed_rx.md R209, 45_typed_rx.md R210, 45_typed_rx.md R211,
45_typed_rx.md R200) -/
def Obligations.TypedReceiveCompletes : Prop :=
  ∀ s : State, s.rxfValid = true →
    (s.rxfLen = 1 → exec .recvU8 s =
      .next { s with results := s.results ++ [.ok (.pattern .u8
        (BitVec.ofNat 8 (wireNat s.params.byteOrder (s.rxfPayload.take 1))))] }) ∧
    (s.rxfLen = 1 → exec .recvS8 s =
      .next { s with results := s.results ++ [.ok (.pattern .s8
        (BitVec.ofNat 8 (wireNat s.params.byteOrder (s.rxfPayload.take 1))))] }) ∧
    (s.rxfLen = 2 → exec .recvU16 s =
      .next { s with results := s.results ++ [.ok (.pattern .u16
        (BitVec.ofNat 16 (wireNat s.params.byteOrder (s.rxfPayload.take 2))))] }) ∧
    (s.rxfLen = 2 → exec .recvS16 s =
      .next { s with results := s.results ++ [.ok (.pattern .s16
        (BitVec.ofNat 16 (wireNat s.params.byteOrder (s.rxfPayload.take 2))))] }) ∧
    (s.rxfLen = 4 → exec .recvU32 s =
      .next { s with results := s.results ++ [.ok (.pattern .u32
        (BitVec.ofNat 32 (wireNat s.params.byteOrder (s.rxfPayload.take 4))))] }) ∧
    (s.rxfLen = 4 → exec .recvS32 s =
      .next { s with results := s.results ++ [.ok (.pattern .s32
        (BitVec.ofNat 32 (wireNat s.params.byteOrder (s.rxfPayload.take 4))))] }) ∧
    (s.rxfLen = 8 → exec .recvU64 s =
      .next { s with results := s.results ++ [.ok (.pattern .u64
        (BitVec.ofNat 64 (wireNat s.params.byteOrder (s.rxfPayload.take 8))))] }) ∧
    (s.rxfLen = 8 → exec .recvS64 s =
      .next { s with results := s.results ++ [.ok (.pattern .s64
        (BitVec.ofNat 64 (wireNat s.params.byteOrder (s.rxfPayload.take 8))))] }) ∧
    (s.rxfLen = 4 → exec .recvF32 s =
      .next { s with results := s.results ++ [.ok (.pattern .f32
        (BitVec.ofNat 32 (wireNat s.params.byteOrder (s.rxfPayload.take 4))))] }) ∧
    (s.rxfLen = 8 → exec .recvF64 s =
      .next { s with results := s.results ++ [.ok (.pattern .f64
        (BitVec.ofNat 64 (wireNat s.params.byteOrder (s.rxfPayload.take 8))))] })

/-- For all ten types: with a frame held whose length is not width(t), the result is LENGTH_MISMATCH with no
value, the length-mismatch signal carrying the frame's identifier is sent when both gates are open, and no
state element changes, so the frame can still be read with the right type. (45_typed_rx.md R200,
45_typed_rx.md R212, 45_typed_rx.md R213, 60_exceptions.md R223, 44_signals.md R193) -/
def Obligations.TypedReceiveLengthMismatch : Prop :=
  ∀ s : State, s.rxfValid = true →
    let u := { s with
      events := (s.signalled s.params.sigLength
        (wireBytes s.params.byteOrder s.params.idBytes s.rxfId.toNat))
      results := s.results ++ [.lengthMismatch] }
    (s.rxfLen ≠ 1 → exec .recvU8 s = .next u) ∧
    (s.rxfLen ≠ 1 → exec .recvS8 s = .next u) ∧
    (s.rxfLen ≠ 2 → exec .recvU16 s = .next u) ∧
    (s.rxfLen ≠ 2 → exec .recvS16 s = .next u) ∧
    (s.rxfLen ≠ 4 → exec .recvU32 s = .next u) ∧
    (s.rxfLen ≠ 4 → exec .recvS32 s = .next u) ∧
    (s.rxfLen ≠ 8 → exec .recvU64 s = .next u) ∧
    (s.rxfLen ≠ 8 → exec .recvS64 s = .next u) ∧
    (s.rxfLen ≠ 4 → exec .recvF32 s = .next u) ∧
    (s.rxfLen ≠ 8 → exec .recvF64 s = .next u)

/-- For all ten types: with rxf_valid = 0 the operation has no result, no event and no next state.
(45_typed_rx.md R201, 93_implementation_defined.md U4) -/
def Obligations.TypedReceiveRefusedBeforeFrame : Prop :=
  ∀ s : State, s.rxfValid = false →
    exec .recvU8 s = .refused .noValidFrame ∧
    exec .recvS8 s = .refused .noValidFrame ∧
    exec .recvU16 s = .refused .noValidFrame ∧
    exec .recvS16 s = .refused .noValidFrame ∧
    exec .recvU32 s = .refused .noValidFrame ∧
    exec .recvS32 s = .refused .noValidFrame ∧
    exec .recvU64 s = .refused .noValidFrame ∧
    exec .recvS64 s = .refused .noValidFrame ∧
    exec .recvF32 s = .refused .noValidFrame ∧
    exec .recvF64 s = .refused .noValidFrame

/-- On an instance that meets the invariant and whose MAX_PAYLOAD is below width(t), every RECV.t that
completes returns LENGTH_MISMATCH. (70_reset_and_hazards.md R264, 10_state.md R34) -/
def Obligations.OversizeTypedReceiveNeverSucceeds : Prop :=
  ∀ (s t : State) (ty : ValType), s.Safe → s.params.maxPayload.val < ty.width →
    exec (Instr.recv ty) s = .next t → t.results = s.results ++ [.lengthMismatch]

/-- In every state both operations complete; the enable flag is 1 or 0 afterwards and every other element,
the partial frame and its timestamp among them, is unchanged. (46_control.md R216, 46_control.md R217) -/
def Obligations.EnableDisableComplete : Prop :=
  ∀ s : State,
    exec .cfgEnable s = .next { s with cfg := { s.cfg with enabled := true } } ∧
    exec .cfgDisable s = .next { s with cfg := { s.cfg with enabled := false } }

/-- For every parameter record: Empty, no validated frame, all registers zero, cfg latched from the
parameters. Nothing is stated about rxbuf, which R42 leaves unspecified. (R42) -/
def Obligations.ResetValues : Prop :=
  ∀ p : Params,
    let s := State.resetWith p
    s.cursor = 0 ∧ s.rxState = some .empty ∧ s.lastActivity = 0 ∧ s.rxfId = 0 ∧ s.rxfLen = 0 ∧
      s.rxfPayload = List.replicate p.maxPayload.val 0x00 ∧ s.rxfCrc = 0 ∧ s.rxfValid = false ∧
      s.cfg.enabled = p.enabledInit ∧ s.cfg.errorReplyEnabled = p.errorReplyEnabled ∧
      s.cfg.idleTimeout = p.idleTimeout

/-- When the environment resets a running instance, the partial frame, the last validated frame and the
enable flag are lost: every element has its reset value for the same parameters, while the byte source, the
tick source and what was already emitted stay. That reset comes over the port and that rxbuf keeps its
unobservable bytes is the model's choice (log 5, log 3). (70_reset_and_hazards.md R250,
70_reset_and_hazards.md R251, 70_reset_and_hazards.md R253) -/
def Obligations.ResetRequestResets : Prop :=
  ∀ (s : State) (rest : List Request), s.port = .reset :: rest →
    step s = .next { State.resetWith s.params with
      rxbuf := s.rxbuf, port := rest, source := s.source, ticks := s.ticks, tickIndex := s.tickIndex,
      events := s.events, results := s.results }

/-- For every legal parameter record the state right after reset meets every clause of the invariant.
(10_state.md R34, 10_state.md R35, 10_state.md R42) -/
def Obligations.ResetMeetsInvariant : Prop :=
  ∀ p : Params, p.legal = true → (State.resetWith p).Safe

/-- From every state that meets the invariant (legal parameters; rxbuf in canonical form within CAP; cursor
below H or below H + min(LENGTH, MAX_PAYLOAD) + 2; register widths; no stale payload byte; nothing in the
frame registers before the first frame; cfg as latched; every event valid), every step that gives a next
state keeps it, whatever operation, reset or input it was. (10_state.md R34, 10_state.md R35, 10_state.md
R26, 10_state.md R37, 20_memory.md R52) -/
def Obligations.StepKeepsInvariant : Prop :=
  ∀ s t : State, s.Safe → step s = .next t → t.Safe

/-- Nothing in the block is fatal: from a state that meets the invariant no step faults, and every well-
formed operation completes, typed receive once a frame was validated. (60_exceptions.md R220, 10_state.md
R35, 20_memory.md R52) -/
def Obligations.InvariantForbidsFault : Prop :=
  (∀ s : State, s.Safe → SafeStep s) ∧
    ∀ (s : State) (i : Instr), s.Safe → i.wellFormed s.params = true →
      ((∃ ty, i = Instr.recv ty) → s.rxfValid = true) → ∃ t, exec i s = .next t

/-- In every state that meets the invariant the cursor is below CAP, so the overwrite branch of step 4 is
dead, and fits the CUR_W bits of the cursor; CAP is at most 260 and CUR_W at most 9. (10_state.md R35,
00_scope.md R9, 10_state.md R22) -/
def Obligations.BufferNeverFullBetweenOperations : Prop :=
  ∀ s : State, s.Safe →
    s.cursor < s.params.cap ∧ s.cursor < 2 ^ s.params.curW ∧ s.params.cap ≤ 260 ∧ s.params.curW ≤ 9

/-- The spec says that nothing is received and nothing times out between operations; that a step with no
request presented leaves the state as it is, is the model's choice (log 5). (70_reset_and_hazards.md R252)
-/
def Obligations.IdlePortDoesNothing : Prop :=
  ∀ s : State, s.port = [] → step s = .next s

/-- The code map of R84, both ways, for every parameter record: of the words that decode, exactly those
whose first byte is the code of an operation decode to that operation, for all 48 operations and all
operands. (30_encoding.md R84, 30_encoding.md R79, 30_encoding.md R80) -/
def Obligations.OperationCodeMap : Prop :=
  ∀ (p : Params) (word : List Byte) (i : Instr), decode p word = .ok i →
    (word.head? = some 0x01 ↔ i = .rxTick) ∧
    (word.head? = some 0x02 ↔ i = .cfgEnable) ∧
    (word.head? = some 0x03 ↔ i = .cfgDisable) ∧
    (word.head? = some 0x04 ↔ ∃ n bytes, i = .crc16 n bytes) ∧
    (word.head? = some 0x05 ↔ ∃ id n bytes, i = .txRaw id n bytes) ∧
    (word.head? = some 0x06 ↔ ∃ id, i = .sigUnknownId id) ∧
    (word.head? = some 0x07 ↔ i = .sigAck) ∧
    (word.head? = some 0x08 ↔ i = .sigNack) ∧
    (word.head? = some 0x10 ↔ ∃ v, i = .serU8 v) ∧
    (word.head? = some 0x11 ↔ ∃ v, i = .serS8 v) ∧
    (word.head? = some 0x12 ↔ ∃ v, i = .serU16 v) ∧
    (word.head? = some 0x13 ↔ ∃ v, i = .serS16 v) ∧
    (word.head? = some 0x14 ↔ ∃ v, i = .serU32 v) ∧
    (word.head? = some 0x15 ↔ ∃ v, i = .serS32 v) ∧
    (word.head? = some 0x16 ↔ ∃ v, i = .serU64 v) ∧
    (word.head? = some 0x17 ↔ ∃ v, i = .serS64 v) ∧
    (word.head? = some 0x18 ↔ ∃ v, i = .serF32 v) ∧
    (word.head? = some 0x19 ↔ ∃ v, i = .serF64 v) ∧
    (word.head? = some 0x20 ↔ ∃ bytes, i = .desU8 bytes) ∧
    (word.head? = some 0x21 ↔ ∃ bytes, i = .desS8 bytes) ∧
    (word.head? = some 0x22 ↔ ∃ bytes, i = .desU16 bytes) ∧
    (word.head? = some 0x23 ↔ ∃ bytes, i = .desS16 bytes) ∧
    (word.head? = some 0x24 ↔ ∃ bytes, i = .desU32 bytes) ∧
    (word.head? = some 0x25 ↔ ∃ bytes, i = .desS32 bytes) ∧
    (word.head? = some 0x26 ↔ ∃ bytes, i = .desU64 bytes) ∧
    (word.head? = some 0x27 ↔ ∃ bytes, i = .desS64 bytes) ∧
    (word.head? = some 0x28 ↔ ∃ bytes, i = .desF32 bytes) ∧
    (word.head? = some 0x29 ↔ ∃ bytes, i = .desF64 bytes) ∧
    (word.head? = some 0x30 ↔ ∃ id v, i = .txU8 id v) ∧
    (word.head? = some 0x31 ↔ ∃ id v, i = .txS8 id v) ∧
    (word.head? = some 0x32 ↔ ∃ id v, i = .txU16 id v) ∧
    (word.head? = some 0x33 ↔ ∃ id v, i = .txS16 id v) ∧
    (word.head? = some 0x34 ↔ ∃ id v, i = .txU32 id v) ∧
    (word.head? = some 0x35 ↔ ∃ id v, i = .txS32 id v) ∧
    (word.head? = some 0x36 ↔ ∃ id v, i = .txU64 id v) ∧
    (word.head? = some 0x37 ↔ ∃ id v, i = .txS64 id v) ∧
    (word.head? = some 0x38 ↔ ∃ id v, i = .txF32 id v) ∧
    (word.head? = some 0x39 ↔ ∃ id v, i = .txF64 id v) ∧
    (word.head? = some 0x40 ↔ i = .recvU8) ∧
    (word.head? = some 0x41 ↔ i = .recvS8) ∧
    (word.head? = some 0x42 ↔ i = .recvU16) ∧
    (word.head? = some 0x43 ↔ i = .recvS16) ∧
    (word.head? = some 0x44 ↔ i = .recvU32) ∧
    (word.head? = some 0x45 ↔ i = .recvS32) ∧
    (word.head? = some 0x46 ↔ i = .recvU64) ∧
    (word.head? = some 0x47 ↔ i = .recvS64) ∧
    (word.head? = some 0x48 ↔ i = .recvF32) ∧
    (word.head? = some 0x49 ↔ i = .recvF64)
end

