-- ==== Sys2Proof/Laws/Bytes.lean ====
section
/-! SUPPORT. Lengths of encoded fields and frames, and the sizes derived from the parameters. -/

namespace Sys2Proof

@[simp] theorem beBytes_length (n v : Nat) : (beBytes n v).length = n := by
  induction n <;> simp_all [beBytes]

@[simp] theorem leBytes_length (n v : Nat) : (leBytes n v).length = n := by
  induction n generalizing v <;> simp_all [leBytes]

@[simp] theorem enc_length (o : ByteOrder) (n v : Nat) : (enc o n v).length = n := by
  cases o <;> simp [enc]

theorem idBytes_cases (p : Params) : p.idBytes = 1 ∨ p.idBytes = 2 := by
  unfold Params.idBytes
  split <;> simp

theorem hdr_eq (p : Params) : p.hdr = p.idBytes + 1 := rfl

theorem overhead_eq (p : Params) : p.overhead = p.idBytes + 3 := rfl

theorem cap_eq (p : Params) : p.cap = p.maxPayload.val + p.idBytes + 3 := rfl

@[simp] theorem encId_length (p : Params) (id : Ident) : (encId p id).length = p.idBytes := by
  simp [encId]

theorem maxPayload_le (p : Params) : p.maxPayload.val ≤ 255 := Nat.le_of_lt_succ p.maxPayload.isLt

namespace Machine

@[simp] theorem ser_length (o : ByteOrder) (t : ValType) (v : BitVec t.bits) :
    (ser o t v).length = t.width := by
  simp [ser]

@[simp] theorem frameBody_length (p : Params) (id : Ident) (q : List Byte) :
    (frameBody p id q).length = p.hdr + q.length := by
  simp [frameBody, hdr_eq]
  omega

@[simp] theorem buildFrame_length (p : Params) (id : Ident) (q : List Byte) :
    (buildFrame p id q).length = p.hdr + q.length + 2 := by
  simp [buildFrame]

theorem clamp_le (p : Params) (n : Nat) : clamp p n ≤ p.maxPayload.val := Nat.min_le_right _ _

theorem clamp_le_self (p : Params) (n : Nat) : clamp p n ≤ n := Nat.min_le_left _ _

theorem bits_eq (t : ValType) : t.bits = 8 * t.width := by cases t <;> rfl

end Machine

end Sys2Proof
end

