-- ==== Sys2Proof/Laws/Memory.lean ====
section
/-! SUPPORT. The memory of the block: read after write, every write keeps the canonical form and the range
of the addresses. -/

namespace Sys2Proof.Machine

@[simp] theorem Memory.read_nil (i : Nat) : Memory.read [] i = Memory.blank := rfl

theorem Memory.read_cons (a : Nat) (b : Byte) (m : Memory) (i : Nat) :
    Memory.read ((a, b) :: m) i = if a = i then b else Memory.read m i := rfl

theorem Memory.wfFrom_mono {m : Memory} {lo hi : Nat} (h : lo ≤ hi) (hw : Memory.wfFrom hi m = true) :
    Memory.wfFrom lo m = true := by
  cases m with
  | nil => rfl
  | cons c m =>
    simp only [Memory.wfFrom, Bool.and_eq_true, decide_eq_true_eq] at hw ⊢
    exact ⟨⟨h.trans hw.1.1, hw.1.2⟩, hw.2⟩

/-- An address below the listed ones reads as blank. -/
theorem Memory.read_below {m : Memory} {lo i : Nat} (hw : Memory.wfFrom lo m = true) (h : i < lo) :
    Memory.read m i = Memory.blank := by
  induction m generalizing lo with
  | nil => rfl
  | cons c m ih =>
    obtain ⟨a, b⟩ := c
    simp only [Memory.wfFrom, Bool.and_eq_true, decide_eq_true_eq] at hw
    rw [Memory.read_cons, if_neg (by omega), ih hw.2 (by omega)]

theorem Memory.read_put (i : Nat) (v : Byte) (m : Memory) (j : Nat)
    (hb : Memory.read m i = Memory.blank) :
    Memory.read (Memory.cons i v m) j = if i = j then v else Memory.read m j := by
  unfold Memory.cons
  split
  · split <;> simp_all
  · rfl

/-- A read after a write gives the value written at its address and the old byte elsewhere. -/
theorem Memory.read_write {m : Memory} (hw : Memory.wf m = true) (i : Nat) (v : Byte) (j : Nat) :
    Memory.read (Memory.write m i v) j = if i = j then v else Memory.read m j := by
  suffices ∀ lo, Memory.wfFrom lo m = true →
      Memory.read (Memory.write m i v) j = if i = j then v else Memory.read m j from this 0 hw
  clear hw
  induction m with
  | nil => intro lo _; exact Memory.read_put i v [] j rfl
  | cons c m ih =>
    intro lo hw
    obtain ⟨a, b⟩ := c
    have hr := hw
    simp only [Memory.wfFrom, Bool.and_eq_true, decide_eq_true_eq] at hr
    unfold Memory.write
    split
    · rename_i h
      refine Memory.read_put i v _ j ?_
      rw [Memory.read_cons, if_neg (by omega), Memory.read_below hr.2 (by omega)]
    · split
      · rename_i h
        subst h
        rw [Memory.read_put i v m j (Memory.read_below hr.2 (by omega)), Memory.read_cons]
        split <;> rfl
      · rw [Memory.read_cons, ih _ hr.2, Memory.read_cons]
        split
        · rw [if_neg (by omega)]
        · rfl

theorem Memory.wfFrom_put {m : Memory} {lo i : Nat} (v : Byte) (h : lo ≤ i)
    (hw : Memory.wfFrom (i + 1) m = true) : Memory.wfFrom lo (Memory.cons i v m) = true := by
  unfold Memory.cons
  split
  · exact Memory.wfFrom_mono (by omega) hw
  · rename_i hv
    simp [Memory.wfFrom, h, hv, hw]

theorem Memory.wfFrom_write {m : Memory} {lo i : Nat} (v : Byte) (h : lo ≤ i)
    (hw : Memory.wfFrom lo m = true) : Memory.wfFrom lo (Memory.write m i v) = true := by
  induction m generalizing lo with
  | nil => exact Memory.wfFrom_put v h rfl
  | cons c m ih =>
    obtain ⟨a, b⟩ := c
    have hr := hw
    simp only [Memory.wfFrom, Bool.and_eq_true, decide_eq_true_eq] at hr
    unfold Memory.write
    split
    · refine Memory.wfFrom_put v h ?_
      simp only [Memory.wfFrom, Bool.and_eq_true, decide_eq_true_eq]
      exact ⟨⟨by omega, hr.1.2⟩, hr.2⟩
    · split
      · rename_i h'
        subst h'
        exact Memory.wfFrom_put v h hr.2
      · simp only [Memory.wfFrom, Bool.and_eq_true, decide_eq_true_eq]
        exact ⟨hr.1, ih (by omega) hr.2⟩

/-- A write keeps the canonical form. -/
theorem Memory.wf_write {m : Memory} (hw : Memory.wf m = true) (i : Nat) (v : Byte) :
    Memory.wf (Memory.write m i v) = true :=
  Memory.wfFrom_write v (Nat.zero_le i) hw

theorem Memory.below_put {m : Memory} {n i : Nat} (v : Byte) (hi : i < n)
    (h : Memory.below n m = true) : Memory.below n (Memory.cons i v m) = true := by
  unfold Memory.cons
  split
  · exact h
  · simp only [Memory.below, List.all_cons, Bool.and_eq_true, decide_eq_true_eq] at h ⊢
    exact ⟨hi, h⟩

/-- A write below `n` keeps every listed address below `n`. -/
theorem Memory.below_write {m : Memory} {n i : Nat} (v : Byte) (hi : i < n)
    (h : Memory.below n m = true) : Memory.below n (Memory.write m i v) = true := by
  induction m with
  | nil => exact Memory.below_put v hi rfl
  | cons c m ih =>
    obtain ⟨a, b⟩ := c
    have hc : a < n ∧ Memory.below n m = true := by
      simpa only [Memory.below, List.all_cons, Bool.and_eq_true, decide_eq_true_eq] using h
    unfold Memory.write
    split
    · exact Memory.below_put v hi h
    · split
      · exact Memory.below_put v hi hc.2
      · simp only [Memory.below, List.all_cons, Bool.and_eq_true, decide_eq_true_eq]
        exact ⟨hc.1, ih hc.2⟩

end Sys2Proof.Machine
end

