-- ==== Sys2Proof/Laws/State.lean ====
section
/-! SUPPORT. One lemma per field of State for each update of it, so that no proof unfolds a record update. -/

namespace Sys2Proof.Machine

@[simp] theorem State.emit_params (e : Event) (s : State) : (s.emit e).params = s.params := rfl
@[simp] theorem State.emit_rxbuf (e : Event) (s : State) : (s.emit e).rxbuf = s.rxbuf := rfl
@[simp] theorem State.emit_cursor (e : Event) (s : State) : (s.emit e).cursor = s.cursor := rfl
@[simp] theorem State.emit_lastActivity (e : Event) (s : State) : (s.emit e).lastActivity = s.lastActivity := rfl
@[simp] theorem State.emit_rxfId (e : Event) (s : State) : (s.emit e).rxfId = s.rxfId := rfl
@[simp] theorem State.emit_rxfLen (e : Event) (s : State) : (s.emit e).rxfLen = s.rxfLen := rfl
@[simp] theorem State.emit_rxfPayload (e : Event) (s : State) : (s.emit e).rxfPayload = s.rxfPayload := rfl
@[simp] theorem State.emit_rxfCrc (e : Event) (s : State) : (s.emit e).rxfCrc = s.rxfCrc := rfl
@[simp] theorem State.emit_rxfValid (e : Event) (s : State) : (s.emit e).rxfValid = s.rxfValid := rfl
@[simp] theorem State.emit_cfg (e : Event) (s : State) : (s.emit e).cfg = s.cfg := rfl
@[simp] theorem State.emit_port (e : Event) (s : State) : (s.emit e).port = s.port := rfl
@[simp] theorem State.emit_source (e : Event) (s : State) : (s.emit e).source = s.source := rfl
@[simp] theorem State.emit_ticks (e : Event) (s : State) : (s.emit e).ticks = s.ticks := rfl
@[simp] theorem State.emit_tickIndex (e : Event) (s : State) : (s.emit e).tickIndex = s.tickIndex := rfl
@[simp] theorem State.emit_events (e : Event) (s : State) : (s.emit e).events = s.events ++ [e] := rfl
@[simp] theorem State.emit_results (e : Event) (s : State) : (s.emit e).results = s.results := rfl

@[simp] theorem State.giveResult_params (r : Result) (s : State) : (s.giveResult r).params = s.params := rfl
@[simp] theorem State.giveResult_rxbuf (r : Result) (s : State) : (s.giveResult r).rxbuf = s.rxbuf := rfl
@[simp] theorem State.giveResult_cursor (r : Result) (s : State) : (s.giveResult r).cursor = s.cursor := rfl
@[simp] theorem State.giveResult_lastActivity (r : Result) (s : State) : (s.giveResult r).lastActivity = s.lastActivity := rfl
@[simp] theorem State.giveResult_rxfId (r : Result) (s : State) : (s.giveResult r).rxfId = s.rxfId := rfl
@[simp] theorem State.giveResult_rxfLen (r : Result) (s : State) : (s.giveResult r).rxfLen = s.rxfLen := rfl
@[simp] theorem State.giveResult_rxfPayload (r : Result) (s : State) : (s.giveResult r).rxfPayload = s.rxfPayload := rfl
@[simp] theorem State.giveResult_rxfCrc (r : Result) (s : State) : (s.giveResult r).rxfCrc = s.rxfCrc := rfl
@[simp] theorem State.giveResult_rxfValid (r : Result) (s : State) : (s.giveResult r).rxfValid = s.rxfValid := rfl
@[simp] theorem State.giveResult_cfg (r : Result) (s : State) : (s.giveResult r).cfg = s.cfg := rfl
@[simp] theorem State.giveResult_port (r : Result) (s : State) : (s.giveResult r).port = s.port := rfl
@[simp] theorem State.giveResult_source (r : Result) (s : State) : (s.giveResult r).source = s.source := rfl
@[simp] theorem State.giveResult_ticks (r : Result) (s : State) : (s.giveResult r).ticks = s.ticks := rfl
@[simp] theorem State.giveResult_tickIndex (r : Result) (s : State) : (s.giveResult r).tickIndex = s.tickIndex := rfl
@[simp] theorem State.giveResult_events (r : Result) (s : State) : (s.giveResult r).events = s.events := rfl
@[simp] theorem State.giveResult_results (r : Result) (s : State) : (s.giveResult r).results = s.results ++ [r] := rfl

@[simp] theorem State.memWrite_params (s : State) (i : Nat) (b : Byte) : (s.memWrite i b).params = s.params := rfl
@[simp] theorem State.memWrite_rxbuf (s : State) (i : Nat) (b : Byte) : (s.memWrite i b).rxbuf = Memory.write s.rxbuf i b := rfl
@[simp] theorem State.memWrite_cursor (s : State) (i : Nat) (b : Byte) : (s.memWrite i b).cursor = s.cursor := rfl
@[simp] theorem State.memWrite_lastActivity (s : State) (i : Nat) (b : Byte) : (s.memWrite i b).lastActivity = s.lastActivity := rfl
@[simp] theorem State.memWrite_rxfId (s : State) (i : Nat) (b : Byte) : (s.memWrite i b).rxfId = s.rxfId := rfl
@[simp] theorem State.memWrite_rxfLen (s : State) (i : Nat) (b : Byte) : (s.memWrite i b).rxfLen = s.rxfLen := rfl
@[simp] theorem State.memWrite_rxfPayload (s : State) (i : Nat) (b : Byte) : (s.memWrite i b).rxfPayload = s.rxfPayload := rfl
@[simp] theorem State.memWrite_rxfCrc (s : State) (i : Nat) (b : Byte) : (s.memWrite i b).rxfCrc = s.rxfCrc := rfl
@[simp] theorem State.memWrite_rxfValid (s : State) (i : Nat) (b : Byte) : (s.memWrite i b).rxfValid = s.rxfValid := rfl
@[simp] theorem State.memWrite_cfg (s : State) (i : Nat) (b : Byte) : (s.memWrite i b).cfg = s.cfg := rfl
@[simp] theorem State.memWrite_port (s : State) (i : Nat) (b : Byte) : (s.memWrite i b).port = s.port := rfl
@[simp] theorem State.memWrite_source (s : State) (i : Nat) (b : Byte) : (s.memWrite i b).source = s.source := rfl
@[simp] theorem State.memWrite_ticks (s : State) (i : Nat) (b : Byte) : (s.memWrite i b).ticks = s.ticks := rfl
@[simp] theorem State.memWrite_tickIndex (s : State) (i : Nat) (b : Byte) : (s.memWrite i b).tickIndex = s.tickIndex := rfl
@[simp] theorem State.memWrite_events (s : State) (i : Nat) (b : Byte) : (s.memWrite i b).events = s.events := rfl
@[simp] theorem State.memWrite_results (s : State) (i : Nat) (b : Byte) : (s.memWrite i b).results = s.results := rfl

@[simp] theorem State.touch_params (now : Nat) (s : State) : (s.touch now).params = s.params := rfl
@[simp] theorem State.touch_rxbuf (now : Nat) (s : State) : (s.touch now).rxbuf = s.rxbuf := rfl
@[simp] theorem State.touch_cursor (now : Nat) (s : State) : (s.touch now).cursor = s.cursor := rfl
@[simp] theorem State.touch_lastActivity (now : Nat) (s : State) : (s.touch now).lastActivity = now := rfl
@[simp] theorem State.touch_rxfId (now : Nat) (s : State) : (s.touch now).rxfId = s.rxfId := rfl
@[simp] theorem State.touch_rxfLen (now : Nat) (s : State) : (s.touch now).rxfLen = s.rxfLen := rfl
@[simp] theorem State.touch_rxfPayload (now : Nat) (s : State) : (s.touch now).rxfPayload = s.rxfPayload := rfl
@[simp] theorem State.touch_rxfCrc (now : Nat) (s : State) : (s.touch now).rxfCrc = s.rxfCrc := rfl
@[simp] theorem State.touch_rxfValid (now : Nat) (s : State) : (s.touch now).rxfValid = s.rxfValid := rfl
@[simp] theorem State.touch_cfg (now : Nat) (s : State) : (s.touch now).cfg = s.cfg := rfl
@[simp] theorem State.touch_port (now : Nat) (s : State) : (s.touch now).port = s.port := rfl
@[simp] theorem State.touch_source (now : Nat) (s : State) : (s.touch now).source = s.source := rfl
@[simp] theorem State.touch_ticks (now : Nat) (s : State) : (s.touch now).ticks = s.ticks := rfl
@[simp] theorem State.touch_tickIndex (now : Nat) (s : State) : (s.touch now).tickIndex = s.tickIndex := rfl
@[simp] theorem State.touch_events (now : Nat) (s : State) : (s.touch now).events = s.events := rfl
@[simp] theorem State.touch_results (now : Nat) (s : State) : (s.touch now).results = s.results := rfl

@[simp] theorem State.takeInputs_params (s : State) : s.takeInputs.params = s.params := rfl
@[simp] theorem State.takeInputs_rxbuf (s : State) : s.takeInputs.rxbuf = s.rxbuf := rfl
@[simp] theorem State.takeInputs_cursor (s : State) : s.takeInputs.cursor = s.cursor := rfl
@[simp] theorem State.takeInputs_lastActivity (s : State) : s.takeInputs.lastActivity = s.lastActivity := rfl
@[simp] theorem State.takeInputs_rxfId (s : State) : s.takeInputs.rxfId = s.rxfId := rfl
@[simp] theorem State.takeInputs_rxfLen (s : State) : s.takeInputs.rxfLen = s.rxfLen := rfl
@[simp] theorem State.takeInputs_rxfPayload (s : State) : s.takeInputs.rxfPayload = s.rxfPayload := rfl
@[simp] theorem State.takeInputs_rxfCrc (s : State) : s.takeInputs.rxfCrc = s.rxfCrc := rfl
@[simp] theorem State.takeInputs_rxfValid (s : State) : s.takeInputs.rxfValid = s.rxfValid := rfl
@[simp] theorem State.takeInputs_cfg (s : State) : s.takeInputs.cfg = s.cfg := rfl
@[simp] theorem State.takeInputs_port (s : State) : s.takeInputs.port = s.port := rfl
@[simp] theorem State.takeInputs_source (s : State) : s.takeInputs.source = s.source.tail := rfl
@[simp] theorem State.takeInputs_ticks (s : State) : s.takeInputs.ticks = s.ticks.tail := rfl
@[simp] theorem State.takeInputs_tickIndex (s : State) : s.takeInputs.tickIndex = s.tickIndex + 1 := rfl
@[simp] theorem State.takeInputs_events (s : State) : s.takeInputs.events = s.events := rfl
@[simp] theorem State.takeInputs_results (s : State) : s.takeInputs.results = s.results := rfl

@[simp] theorem State.setEnabled_params (b : Bool) (s : State) : (s.setEnabled b).params = s.params := rfl
@[simp] theorem State.setEnabled_rxbuf (b : Bool) (s : State) : (s.setEnabled b).rxbuf = s.rxbuf := rfl
@[simp] theorem State.setEnabled_cursor (b : Bool) (s : State) : (s.setEnabled b).cursor = s.cursor := rfl
@[simp] theorem State.setEnabled_lastActivity (b : Bool) (s : State) : (s.setEnabled b).lastActivity = s.lastActivity := rfl
@[simp] theorem State.setEnabled_rxfId (b : Bool) (s : State) : (s.setEnabled b).rxfId = s.rxfId := rfl
@[simp] theorem State.setEnabled_rxfLen (b : Bool) (s : State) : (s.setEnabled b).rxfLen = s.rxfLen := rfl
@[simp] theorem State.setEnabled_rxfPayload (b : Bool) (s : State) : (s.setEnabled b).rxfPayload = s.rxfPayload := rfl
@[simp] theorem State.setEnabled_rxfCrc (b : Bool) (s : State) : (s.setEnabled b).rxfCrc = s.rxfCrc := rfl
@[simp] theorem State.setEnabled_rxfValid (b : Bool) (s : State) : (s.setEnabled b).rxfValid = s.rxfValid := rfl
@[simp] theorem State.setEnabled_cfg (b : Bool) (s : State) : (s.setEnabled b).cfg = { s.cfg with enabled := b } := rfl
@[simp] theorem State.setEnabled_port (b : Bool) (s : State) : (s.setEnabled b).port = s.port := rfl
@[simp] theorem State.setEnabled_source (b : Bool) (s : State) : (s.setEnabled b).source = s.source := rfl
@[simp] theorem State.setEnabled_ticks (b : Bool) (s : State) : (s.setEnabled b).ticks = s.ticks := rfl
@[simp] theorem State.setEnabled_tickIndex (b : Bool) (s : State) : (s.setEnabled b).tickIndex = s.tickIndex := rfl
@[simp] theorem State.setEnabled_events (b : Bool) (s : State) : (s.setEnabled b).events = s.events := rfl
@[simp] theorem State.setEnabled_results (b : Bool) (s : State) : (s.setEnabled b).results = s.results := rfl

@[simp] theorem State.present_params (word : List Byte) (s : State) : (s.present word).params = s.params := rfl
@[simp] theorem State.present_rxbuf (word : List Byte) (s : State) : (s.present word).rxbuf = s.rxbuf := rfl
@[simp] theorem State.present_cursor (word : List Byte) (s : State) : (s.present word).cursor = s.cursor := rfl
@[simp] theorem State.present_lastActivity (word : List Byte) (s : State) : (s.present word).lastActivity = s.lastActivity := rfl
@[simp] theorem State.present_rxfId (word : List Byte) (s : State) : (s.present word).rxfId = s.rxfId := rfl
@[simp] theorem State.present_rxfLen (word : List Byte) (s : State) : (s.present word).rxfLen = s.rxfLen := rfl
@[simp] theorem State.present_rxfPayload (word : List Byte) (s : State) : (s.present word).rxfPayload = s.rxfPayload := rfl
@[simp] theorem State.present_rxfCrc (word : List Byte) (s : State) : (s.present word).rxfCrc = s.rxfCrc := rfl
@[simp] theorem State.present_rxfValid (word : List Byte) (s : State) : (s.present word).rxfValid = s.rxfValid := rfl
@[simp] theorem State.present_cfg (word : List Byte) (s : State) : (s.present word).cfg = s.cfg := rfl
@[simp] theorem State.present_port (word : List Byte) (s : State) : (s.present word).port = .operation word :: s.port := rfl
@[simp] theorem State.present_source (word : List Byte) (s : State) : (s.present word).source = s.source := rfl
@[simp] theorem State.present_ticks (word : List Byte) (s : State) : (s.present word).ticks = s.ticks := rfl
@[simp] theorem State.present_tickIndex (word : List Byte) (s : State) : (s.present word).tickIndex = s.tickIndex := rfl
@[simp] theorem State.present_events (word : List Byte) (s : State) : (s.present word).events = s.events := rfl
@[simp] theorem State.present_results (word : List Byte) (s : State) : (s.present word).results = s.results := rfl

@[simp] theorem State.latchFrame_params (s : State) : s.latchFrame.params = s.params := rfl
@[simp] theorem State.latchFrame_rxbuf (s : State) : s.latchFrame.rxbuf = s.rxbuf := rfl
@[simp] theorem State.latchFrame_cursor (s : State) : s.latchFrame.cursor = s.cursor := rfl
@[simp] theorem State.latchFrame_lastActivity (s : State) : s.latchFrame.lastActivity = s.lastActivity := rfl
@[simp] theorem State.latchFrame_rxfId (s : State) : s.latchFrame.rxfId = s.recvId := rfl
@[simp] theorem State.latchFrame_rxfLen (s : State) : s.latchFrame.rxfLen = s.declaredLen := rfl
@[simp] theorem State.latchFrame_rxfPayload (s : State) : s.latchFrame.rxfPayload = s.recvPayload ++ List.replicate (s.params.maxPayload.val - s.declaredLen) 0 := rfl
@[simp] theorem State.latchFrame_rxfCrc (s : State) : s.latchFrame.rxfCrc = s.recvCrc := rfl
@[simp] theorem State.latchFrame_rxfValid (s : State) : s.latchFrame.rxfValid = true := rfl
@[simp] theorem State.latchFrame_cfg (s : State) : s.latchFrame.cfg = s.cfg := rfl
@[simp] theorem State.latchFrame_port (s : State) : s.latchFrame.port = s.port := rfl
@[simp] theorem State.latchFrame_source (s : State) : s.latchFrame.source = s.source := rfl
@[simp] theorem State.latchFrame_ticks (s : State) : s.latchFrame.ticks = s.ticks := rfl
@[simp] theorem State.latchFrame_tickIndex (s : State) : s.latchFrame.tickIndex = s.tickIndex := rfl
@[simp] theorem State.latchFrame_events (s : State) : s.latchFrame.events = s.events := rfl
@[simp] theorem State.latchFrame_results (s : State) : s.latchFrame.results = s.results := rfl

@[simp] theorem deliver_params (s : State) : (deliver s).params = s.params := rfl
@[simp] theorem deliver_rxbuf (s : State) : (deliver s).rxbuf = s.rxbuf := rfl
@[simp] theorem deliver_cursor (s : State) : (deliver s).cursor = 0 := rfl
@[simp] theorem deliver_lastActivity (s : State) : (deliver s).lastActivity = s.lastActivity := rfl
@[simp] theorem deliver_rxfId (s : State) : (deliver s).rxfId = s.recvId := rfl
@[simp] theorem deliver_rxfLen (s : State) : (deliver s).rxfLen = s.declaredLen := rfl
@[simp] theorem deliver_rxfPayload (s : State) : (deliver s).rxfPayload = s.recvPayload ++ List.replicate (s.params.maxPayload.val - s.declaredLen) 0 := rfl
@[simp] theorem deliver_rxfCrc (s : State) : (deliver s).rxfCrc = s.recvCrc := rfl
@[simp] theorem deliver_rxfValid (s : State) : (deliver s).rxfValid = true := rfl
@[simp] theorem deliver_cfg (s : State) : (deliver s).cfg = s.cfg := rfl
@[simp] theorem deliver_port (s : State) : (deliver s).port = s.port := rfl
@[simp] theorem deliver_source (s : State) : (deliver s).source = s.source := rfl
@[simp] theorem deliver_ticks (s : State) : (deliver s).ticks = s.ticks := rfl
@[simp] theorem deliver_tickIndex (s : State) : (deliver s).tickIndex = s.tickIndex := rfl
@[simp] theorem deliver_events (s : State) : (deliver s).events = s.events ++ [.handler s.recvId s.declaredLen s.recvPayload s.recvCrc] := rfl
@[simp] theorem deliver_results (s : State) : (deliver s).results = s.results := rfl

@[simp] theorem State.applyReset_params (s : State) : s.applyReset.params = s.params := rfl
@[simp] theorem State.applyReset_rxbuf (s : State) : s.applyReset.rxbuf = s.rxbuf := rfl
@[simp] theorem State.applyReset_cursor (s : State) : s.applyReset.cursor = 0 := rfl
@[simp] theorem State.applyReset_lastActivity (s : State) : s.applyReset.lastActivity = 0 := rfl
@[simp] theorem State.applyReset_rxfId (s : State) : s.applyReset.rxfId = 0 := rfl
@[simp] theorem State.applyReset_rxfLen (s : State) : s.applyReset.rxfLen = 0 := rfl
@[simp] theorem State.applyReset_rxfPayload (s : State) : s.applyReset.rxfPayload = List.replicate s.params.maxPayload.val 0 := rfl
@[simp] theorem State.applyReset_rxfCrc (s : State) : s.applyReset.rxfCrc = 0 := rfl
@[simp] theorem State.applyReset_rxfValid (s : State) : s.applyReset.rxfValid = false := rfl
@[simp] theorem State.applyReset_cfg (s : State) : s.applyReset.cfg = { enabled := s.params.enabledInit, errorReplyEnabled := s.params.errorReplyEnabled, idleTimeout := s.params.idleTimeout } := rfl
@[simp] theorem State.applyReset_port (s : State) : s.applyReset.port = s.port := rfl
@[simp] theorem State.applyReset_source (s : State) : s.applyReset.source = s.source := rfl
@[simp] theorem State.applyReset_ticks (s : State) : s.applyReset.ticks = s.ticks := rfl
@[simp] theorem State.applyReset_tickIndex (s : State) : s.applyReset.tickIndex = s.tickIndex := rfl
@[simp] theorem State.applyReset_events (s : State) : s.applyReset.events = s.events := rfl
@[simp] theorem State.applyReset_results (s : State) : s.applyReset.results = s.results := rfl

end Sys2Proof.Machine
end

