-- ==== Sys2Proof/Laws/Ops.lean ====
section
/-! SUPPORT. What each shared operation can do, said once: the transmit path touches nothing but the events,
handling an error touches what `60_exceptions.md` R221 to R226 say, and the inversion lemmas of the Frame
Assembler's steps and of the operations that can be refused. -/

namespace Sys2Proof.Machine

/-- The transmit path: one frame when enabled, nothing when disabled. -/
theorem txRaw_eq (id : Ident) (q : List Byte) (n : Nat) (s : State) :
    txRaw id q n s =
      if s.cfg.enabled then s.emit (.sink (buildFrame s.params id (q.take (clamp s.params n)))) else s := rfl

/-- A signal: one frame when both gates are open, nothing otherwise. -/
theorem signal_eq (sig : Ident) (q : List Byte) (s : State) :
    signal sig q s =
      if s.cfg.errorReplyEnabled && s.cfg.enabled then
        s.emit (.sink (buildFrame s.params sig (q.take (clamp s.params q.length))))
      else s := by
  by_cases h : s.cfg.errorReplyEnabled = true
  · simp only [signal, State.signalOpen, txRaw_eq, h, if_true, Bool.true_and]
  · simp only [Bool.not_eq_true] at h
    simp [signal, State.signalOpen, h]

@[simp] theorem txRaw_params (id : Ident) (q : List Byte) (n : Nat) (s : State) :
    (txRaw id q n s).params = s.params := by
  rw [txRaw_eq]
  split <;> rfl

@[simp] theorem txRaw_rxbuf (id : Ident) (q : List Byte) (n : Nat) (s : State) :
    (txRaw id q n s).rxbuf = s.rxbuf := by
  rw [txRaw_eq]
  split <;> rfl

@[simp] theorem txRaw_cursor (id : Ident) (q : List Byte) (n : Nat) (s : State) :
    (txRaw id q n s).cursor = s.cursor := by
  rw [txRaw_eq]
  split <;> rfl

@[simp] theorem txRaw_lastActivity (id : Ident) (q : List Byte) (n : Nat) (s : State) :
    (txRaw id q n s).lastActivity = s.lastActivity := by
  rw [txRaw_eq]
  split <;> rfl

@[simp] theorem txRaw_rxfId (id : Ident) (q : List Byte) (n : Nat) (s : State) :
    (txRaw id q n s).rxfId = s.rxfId := by
  rw [txRaw_eq]
  split <;> rfl

@[simp] theorem txRaw_rxfLen (id : Ident) (q : List Byte) (n : Nat) (s : State) :
    (txRaw id q n s).rxfLen = s.rxfLen := by
  rw [txRaw_eq]
  split <;> rfl

@[simp] theorem txRaw_rxfPayload (id : Ident) (q : List Byte) (n : Nat) (s : State) :
    (txRaw id q n s).rxfPayload = s.rxfPayload := by
  rw [txRaw_eq]
  split <;> rfl

@[simp] theorem txRaw_rxfCrc (id : Ident) (q : List Byte) (n : Nat) (s : State) :
    (txRaw id q n s).rxfCrc = s.rxfCrc := by
  rw [txRaw_eq]
  split <;> rfl

@[simp] theorem txRaw_rxfValid (id : Ident) (q : List Byte) (n : Nat) (s : State) :
    (txRaw id q n s).rxfValid = s.rxfValid := by
  rw [txRaw_eq]
  split <;> rfl

@[simp] theorem txRaw_cfg (id : Ident) (q : List Byte) (n : Nat) (s : State) :
    (txRaw id q n s).cfg = s.cfg := by
  rw [txRaw_eq]
  split <;> rfl

@[simp] theorem txRaw_port (id : Ident) (q : List Byte) (n : Nat) (s : State) :
    (txRaw id q n s).port = s.port := by
  rw [txRaw_eq]
  split <;> rfl

@[simp] theorem txRaw_source (id : Ident) (q : List Byte) (n : Nat) (s : State) :
    (txRaw id q n s).source = s.source := by
  rw [txRaw_eq]
  split <;> rfl

@[simp] theorem txRaw_ticks (id : Ident) (q : List Byte) (n : Nat) (s : State) :
    (txRaw id q n s).ticks = s.ticks := by
  rw [txRaw_eq]
  split <;> rfl

@[simp] theorem txRaw_tickIndex (id : Ident) (q : List Byte) (n : Nat) (s : State) :
    (txRaw id q n s).tickIndex = s.tickIndex := by
  rw [txRaw_eq]
  split <;> rfl

@[simp] theorem txRaw_results (id : Ident) (q : List Byte) (n : Nat) (s : State) :
    (txRaw id q n s).results = s.results := by
  rw [txRaw_eq]
  split <;> rfl

@[simp] theorem signal_params (sig : Ident) (q : List Byte) (s : State) :
    (signal sig q s).params = s.params := by
  rw [signal_eq]
  split <;> rfl

@[simp] theorem signal_rxbuf (sig : Ident) (q : List Byte) (s : State) :
    (signal sig q s).rxbuf = s.rxbuf := by
  rw [signal_eq]
  split <;> rfl

@[simp] theorem signal_cursor (sig : Ident) (q : List Byte) (s : State) :
    (signal sig q s).cursor = s.cursor := by
  rw [signal_eq]
  split <;> rfl

@[simp] theorem signal_lastActivity (sig : Ident) (q : List Byte) (s : State) :
    (signal sig q s).lastActivity = s.lastActivity := by
  rw [signal_eq]
  split <;> rfl

@[simp] theorem signal_rxfId (sig : Ident) (q : List Byte) (s : State) :
    (signal sig q s).rxfId = s.rxfId := by
  rw [signal_eq]
  split <;> rfl

@[simp] theorem signal_rxfLen (sig : Ident) (q : List Byte) (s : State) :
    (signal sig q s).rxfLen = s.rxfLen := by
  rw [signal_eq]
  split <;> rfl

@[simp] theorem signal_rxfPayload (sig : Ident) (q : List Byte) (s : State) :
    (signal sig q s).rxfPayload = s.rxfPayload := by
  rw [signal_eq]
  split <;> rfl

@[simp] theorem signal_rxfCrc (sig : Ident) (q : List Byte) (s : State) :
    (signal sig q s).rxfCrc = s.rxfCrc := by
  rw [signal_eq]
  split <;> rfl

@[simp] theorem signal_rxfValid (sig : Ident) (q : List Byte) (s : State) :
    (signal sig q s).rxfValid = s.rxfValid := by
  rw [signal_eq]
  split <;> rfl

@[simp] theorem signal_cfg (sig : Ident) (q : List Byte) (s : State) :
    (signal sig q s).cfg = s.cfg := by
  rw [signal_eq]
  split <;> rfl

@[simp] theorem signal_port (sig : Ident) (q : List Byte) (s : State) :
    (signal sig q s).port = s.port := by
  rw [signal_eq]
  split <;> rfl

@[simp] theorem signal_source (sig : Ident) (q : List Byte) (s : State) :
    (signal sig q s).source = s.source := by
  rw [signal_eq]
  split <;> rfl

@[simp] theorem signal_ticks (sig : Ident) (q : List Byte) (s : State) :
    (signal sig q s).ticks = s.ticks := by
  rw [signal_eq]
  split <;> rfl

@[simp] theorem signal_tickIndex (sig : Ident) (q : List Byte) (s : State) :
    (signal sig q s).tickIndex = s.tickIndex := by
  rw [signal_eq]
  split <;> rfl

@[simp] theorem signal_results (sig : Ident) (q : List Byte) (s : State) :
    (signal sig q s).results = s.results := by
  rw [signal_eq]
  split <;> rfl

/-- The events of a signal. -/
theorem signal_events (sig : Ident) (q : List Byte) (s : State) :
    (signal sig q s).events =
      if s.cfg.errorReplyEnabled && s.cfg.enabled then
        s.events ++ [.sink (buildFrame s.params sig (q.take (clamp s.params q.length)))]
      else s.events := by
  rw [signal_eq]
  split <;> rfl

/-- A signal adds at most one event, a frame with the signal's identifier and a clamped payload. -/
theorem signal_events_cases (sig : Ident) (q : List Byte) (s : State) :
    (signal sig q s).events = s.events ∨
      ∃ r : List Byte, r.length ≤ s.params.maxPayload.val ∧
        (signal sig q s).events = s.events ++ [.sink (buildFrame s.params sig r)] := by
  rw [signal_events]
  split
  · exact .inr ⟨_, by simpa using .inl (clamp_le _ _), rfl⟩
  · exact .inl rfl

/-- The events of the transmit path. -/
theorem txRaw_events (id : Ident) (q : List Byte) (n : Nat) (s : State) :
    (txRaw id q n s).events =
      if s.cfg.enabled then s.events ++ [.sink (buildFrame s.params id (q.take (clamp s.params n)))]
      else s.events := by
  rw [txRaw_eq]
  split <;> rfl

@[simp] theorem raise_params (e : ErrorClass) (s : State) : (raise e s).params = s.params := by
  cases e <;> simp [raise]

@[simp] theorem raise_lastActivity (e : ErrorClass) (s : State) : (raise e s).lastActivity = s.lastActivity := by
  cases e <;> simp [raise]

@[simp] theorem raise_rxfId (e : ErrorClass) (s : State) : (raise e s).rxfId = s.rxfId := by
  cases e <;> simp [raise]

@[simp] theorem raise_rxfLen (e : ErrorClass) (s : State) : (raise e s).rxfLen = s.rxfLen := by
  cases e <;> simp [raise]

@[simp] theorem raise_rxfPayload (e : ErrorClass) (s : State) : (raise e s).rxfPayload = s.rxfPayload := by
  cases e <;> simp [raise]

@[simp] theorem raise_rxfCrc (e : ErrorClass) (s : State) : (raise e s).rxfCrc = s.rxfCrc := by
  cases e <;> simp [raise]

@[simp] theorem raise_rxfValid (e : ErrorClass) (s : State) : (raise e s).rxfValid = s.rxfValid := by
  cases e <;> simp [raise]

@[simp] theorem raise_cfg (e : ErrorClass) (s : State) : (raise e s).cfg = s.cfg := by
  cases e <;> simp [raise]

@[simp] theorem raise_port (e : ErrorClass) (s : State) : (raise e s).port = s.port := by
  cases e <;> simp [raise]

@[simp] theorem raise_source (e : ErrorClass) (s : State) : (raise e s).source = s.source := by
  cases e <;> simp [raise]

@[simp] theorem raise_ticks (e : ErrorClass) (s : State) : (raise e s).ticks = s.ticks := by
  cases e <;> simp [raise]

@[simp] theorem raise_tickIndex (e : ErrorClass) (s : State) : (raise e s).tickIndex = s.tickIndex := by
  cases e <;> simp [raise]

@[simp] theorem raise_results (e : ErrorClass) (s : State) : (raise e s).results = s.results := by
  cases e <;> simp [raise]

/-- Handling an error empties the buffer exactly for the two classes with a partial frame. -/
theorem raise_cursor (e : ErrorClass) (s : State) :
    (raise e s).cursor = if e = .checksumMismatch ∨ e = .frameTimeout then 0 else s.cursor := by
  cases e <;> simp [raise]

/-- Handling an error writes `rxbuf` only for an overrun, at the last slot. -/
theorem raise_rxbuf (e : ErrorClass) (s : State) :
    (raise e s).rxbuf =
      match e with
      | .bufferOverrun b => Memory.write s.rxbuf (s.params.cap - 1) b
      | _ => s.rxbuf := by
  cases e <;> simp [raise]

/-- Handling an error adds at most one event, the signal frame of its class with a clamped payload. -/
theorem raise_events (e : ErrorClass) (s : State) :
    (raise e s).events = s.events ∨
      ∃ c r, e.code s.params = some c ∧ r.length ≤ s.params.maxPayload.val ∧
        (raise e s).events = s.events ++ [.sink (buildFrame s.params c r)] := by
  cases e with
  | bufferOverrun b => exact .inl rfl
  | checksumMismatch =>
    exact (signal_events_cases _ _ _).imp id fun ⟨r, hr, h⟩ => ⟨_, r, rfl, hr, h⟩
  | frameTimeout =>
    exact (signal_events_cases _ _ _).imp id fun ⟨r, hr, h⟩ => ⟨_, r, rfl, hr, h⟩
  | lengthMismatch id =>
    exact (signal_events_cases _ _ _).imp (fun h => h) fun ⟨r, hr, h⟩ => ⟨_, r, rfl, hr, h⟩
  | unknownIdentifier id =>
    exact (signal_events_cases _ _ _).imp (fun h => h) fun ⟨r, hr, h⟩ => ⟨_, r, rfl, hr, h⟩

/-- Where a byte is stored. -/
def State.storeIndex (s : State) : Nat := if s.cursor = s.params.cap then s.params.cap - 1 else s.cursor

/-- A byte that is stored: one byte of `rxbuf`, and the cursor goes up by one below capacity. -/
theorem storeByte_some {b : Byte} {s t : State} (h : storeByte b s = some t) :
    s.cursor ≤ s.params.cap ∧
      t = { s with
        rxbuf := Memory.write s.rxbuf s.storeIndex b
        cursor := if s.cursor = s.params.cap then s.cursor else s.cursor + 1 } := by
  unfold storeByte at h
  split at h
  · rename_i hc
    simp only [Option.some.injEq] at h
    subst h
    simp [hc, raise, State.storeIndex, State.memWrite]
  · split at h
    · rename_i hc hl
      simp only [Option.some.injEq] at h
      subst h
      exact ⟨by omega, by simp [hc, State.storeIndex, State.memWrite]⟩
    · cases h

theorem storeByte_isSome (b : Byte) (s : State) :
    (storeByte b s).isSome = true ↔ s.cursor ≤ s.params.cap := by
  unfold storeByte
  split
  · simp_all
  · split <;> simp <;> omega

/-- The completion test: nothing, a delivery, or a checksum mismatch. -/
theorem checkFrame_cases (s : State) :
    (¬(s.params.hdr ≤ s.cursor ∧ s.cursor = s.frameTotal) ∧ checkFrame s = s) ∨
    ((s.params.hdr ≤ s.cursor ∧ s.cursor = s.frameTotal) ∧ s.calcCrc = s.recvCrc ∧
      checkFrame s = deliver s) ∨
    ((s.params.hdr ≤ s.cursor ∧ s.cursor = s.frameTotal) ∧ s.calcCrc ≠ s.recvCrc ∧
      checkFrame s = raise .checksumMismatch s) := by
  unfold checkFrame
  split
  · rename_i h
    split
    · rename_i hc
      exact .inr (.inl ⟨h, hc, rfl⟩)
    · rename_i hc
      exact .inr (.inr ⟨h, hc, rfl⟩)
  · rename_i h
    exact .inl ⟨h, rfl⟩

/-- The idle timeout: nothing, or a frame timeout. -/
theorem checkIdle_cases (now : Nat) (s : State) :
    (s.timedOut now = false ∧ checkIdle now s = s) ∨
    (s.timedOut now = true ∧ checkIdle now s = raise .frameTimeout s) := by
  unfold checkIdle
  split <;> simp_all

@[simp] theorem truncSub_self (n a : Nat) : truncSub n a a = 0 := by simp [truncSub]

/-- The completion test leaves the timestamp alone. -/
@[simp] theorem checkFrame_lastActivity (s : State) : (checkFrame s).lastActivity = s.lastActivity := by
  obtain ⟨-, h⟩ | ⟨-, -, h⟩ | ⟨-, -, h⟩ := checkFrame_cases s <;> simp [h]

@[simp] theorem checkFrame_params (s : State) : (checkFrame s).params = s.params := by
  obtain ⟨-, h⟩ | ⟨-, -, h⟩ | ⟨-, -, h⟩ := checkFrame_cases s <;> simp [h]

/-- No timeout on an invocation that accepted a byte (`42_rx_assembler.md` R148). -/
theorem checkIdle_touched {now : Nat} {s : State} (h : s.lastActivity = now) : checkIdle now s = s := by
  obtain ⟨-, h'⟩ | ⟨h', -⟩ := checkIdle_cases now s
  · exact h'
  · simp [State.timedOut, State.elapsed, h] at h'

/-- What an accepted byte does: it is stored and the frame is checked; or the store faults. -/
theorem acceptByte_cases (now : Nat) (b : Byte) (s : State) :
    (∃ u, storeByte b (s.touch now) = some u ∧ acceptByte now b s = .next (checkFrame u)) ∨
    (s.params.cap < s.cursor ∧ acceptByte now b s = .fault .rxbufOutOfRange) := by
  unfold acceptByte
  cases h : storeByte b (s.touch now) with
  | some u =>
    refine .inl ⟨u, rfl, ?_⟩
    have hu : (checkFrame u).lastActivity = now := by
      rw [checkFrame_lastActivity, (storeByte_some h).2]
      rfl
    simp only [checkIdle_touched hu]
  | none =>
    have := mt (storeByte_isSome b (s.touch now)).2
    simp only [h, Option.isSome_none, Bool.false_eq_true, not_false_eq_true, State.touch_cursor,
      State.touch_params] at this
    exact .inr ⟨by simpa using this, rfl⟩

/-- What `RX.TICK` does: nothing when disabled; without a byte, the idle check; with one, the byte is stored
and the frame checked; or the store faults. -/
theorem execRxTick_cases (s : State) :
    (s.cfg.enabled = false ∧ execRxTick s = .next s) ∨
    (s.cfg.enabled = true ∧ s.rxIn = none ∧ execRxTick s = .next (checkIdle s.now s.takeInputs)) ∨
    (∃ b u, s.cfg.enabled = true ∧ s.rxIn = some b ∧
      storeByte b (s.takeInputs.touch s.now) = some u ∧ execRxTick s = .next (checkFrame u)) ∨
    (∃ b, s.cfg.enabled = true ∧ s.rxIn = some b ∧ s.params.cap < s.cursor ∧
      execRxTick s = .fault .rxbufOutOfRange) := by
  unfold execRxTick
  cases he : s.cfg.enabled with
  | false => simp
  | true =>
    cases hr : s.rxIn with
    | none => simp
    | some b =>
      obtain ⟨u, hu, h⟩ | ⟨hc, h⟩ := acceptByte_cases s.now b s.takeInputs
      · exact .inr (.inr (.inl ⟨b, u, rfl, rfl, hu, h⟩))
      · exact .inr (.inr (.inr ⟨b, rfl, rfl, hc, h⟩))

/-- `RECV.t`: refused, a length mismatch, or the value. -/
theorem recv_cases (t : ValType) (s : State) :
    (s.rxfValid = false ∧ recv t s = .refused .noValidFrame) ∨
    (s.rxfValid = true ∧ s.rxfLen ≠ t.width ∧
      recv t s = .next ((raise (.lengthMismatch s.rxfId) s).giveResult .lengthMismatch)) ∨
    (s.rxfValid = true ∧ s.rxfLen = t.width ∧
      recv t s = .next (s.giveResult
        (.ok (.pattern t (des s.params.byteOrder t (s.rxfPayload.take t.width)))))) := by
  unfold recv
  split
  · split <;> simp_all
  · simp_all

/-- `DES.t`: the value, or refused for another length. -/
theorem deserialize_cases (t : ValType) (bs : List Byte) (s : State) :
    (bs.length = t.width ∧
      deserialize t bs s = .next (s.giveResult (.ok (.pattern t (des s.params.byteOrder t bs))))) ∨
    (bs.length ≠ t.width ∧ deserialize t bs s = .refused .wrongWidth) := by
  unfold deserialize
  split <;> simp_all

/-- `TX.t`: the transmit path, or refused for an identifier wider than the field. -/
theorem transmit_cases (t : ValType) (id : Ident) (v : BitVec t.bits) (s : State) :
    (s.params.idFits id = true ∧
      transmit t id v s = .next (txRaw id (ser s.params.byteOrder t v) t.width s)) ∨
    (s.params.idFits id = false ∧ transmit t id v s = .refused .identifierTooWide) := by
  unfold transmit
  split <;> simp_all

/-- What a step does: idle, reset, an operation, or a refusal of the word. -/
theorem step_cases (s : State) :
    (s.port = [] ∧ step s = .next s) ∨
    (∃ rest, s.port = .reset :: rest ∧ step s = .next { s with port := rest }.applyReset) ∨
    (∃ w rest i, s.port = .operation w :: rest ∧ decode s.params w = .ok i ∧
      step s = exec i { s with port := rest }) ∨
    (∃ w rest e, s.port = .operation w :: rest ∧ decode s.params w = .error e ∧
      step s = .refused (.undecodable e)) := by
  unfold step State.fetch
  cases hp : s.port with
  | nil => simp
  | cons r rest =>
    cases r with
    | reset => exact .inr (.inl ⟨rest, rfl, rfl⟩)
    | operation w =>
      cases hd : decode s.params w with
      | ok i => exact .inr (.inr (.inl ⟨w, rest, i, rfl, hd, by simp [hd]⟩))
      | error e => exact .inr (.inr (.inr ⟨w, rest, e, rfl, hd, by simp [hd]⟩))

end Sys2Proof.Machine
end

