-- ==== Sys2Proof/Laws/PerInstr.lean ====
section
/-! SUPPORT. Statements made per instruction. -/

namespace Sys2Proof.Laws

/-- The operation's code is assigned: it is none of the reserved codes of `30_encoding.md` R85. -/
def OpcodeAssigned.Statement (i : Instr) : Prop := reservedCode (opcode i) = false

theorem OpcodeAssigned.rxTick : OpcodeAssigned.Statement (.rxTick) := rfl
theorem OpcodeAssigned.cfgEnable : OpcodeAssigned.Statement (.cfgEnable) := rfl
theorem OpcodeAssigned.cfgDisable : OpcodeAssigned.Statement (.cfgDisable) := rfl
theorem OpcodeAssigned.crc16 (n : Word16) (bytes : List Byte) : OpcodeAssigned.Statement (.crc16 n bytes) := rfl
theorem OpcodeAssigned.txRaw (id : Ident) (n : Word16) (bytes : List Byte) : OpcodeAssigned.Statement (.txRaw id n bytes) := rfl
theorem OpcodeAssigned.sigUnknownId (id : Ident) : OpcodeAssigned.Statement (.sigUnknownId id) := rfl
theorem OpcodeAssigned.sigAck : OpcodeAssigned.Statement (.sigAck) := rfl
theorem OpcodeAssigned.sigNack : OpcodeAssigned.Statement (.sigNack) := rfl
theorem OpcodeAssigned.serU8 (v : BitVec 8) : OpcodeAssigned.Statement (.serU8 v) := rfl
theorem OpcodeAssigned.serS8 (v : BitVec 8) : OpcodeAssigned.Statement (.serS8 v) := rfl
theorem OpcodeAssigned.serU16 (v : BitVec 16) : OpcodeAssigned.Statement (.serU16 v) := rfl
theorem OpcodeAssigned.serS16 (v : BitVec 16) : OpcodeAssigned.Statement (.serS16 v) := rfl
theorem OpcodeAssigned.serU32 (v : BitVec 32) : OpcodeAssigned.Statement (.serU32 v) := rfl
theorem OpcodeAssigned.serS32 (v : BitVec 32) : OpcodeAssigned.Statement (.serS32 v) := rfl
theorem OpcodeAssigned.serU64 (v : BitVec 64) : OpcodeAssigned.Statement (.serU64 v) := rfl
theorem OpcodeAssigned.serS64 (v : BitVec 64) : OpcodeAssigned.Statement (.serS64 v) := rfl
theorem OpcodeAssigned.serF32 (v : BitVec 32) : OpcodeAssigned.Statement (.serF32 v) := rfl
theorem OpcodeAssigned.serF64 (v : BitVec 64) : OpcodeAssigned.Statement (.serF64 v) := rfl
theorem OpcodeAssigned.desU8 (bytes : List Byte) : OpcodeAssigned.Statement (.desU8 bytes) := rfl
theorem OpcodeAssigned.desS8 (bytes : List Byte) : OpcodeAssigned.Statement (.desS8 bytes) := rfl
theorem OpcodeAssigned.desU16 (bytes : List Byte) : OpcodeAssigned.Statement (.desU16 bytes) := rfl
theorem OpcodeAssigned.desS16 (bytes : List Byte) : OpcodeAssigned.Statement (.desS16 bytes) := rfl
theorem OpcodeAssigned.desU32 (bytes : List Byte) : OpcodeAssigned.Statement (.desU32 bytes) := rfl
theorem OpcodeAssigned.desS32 (bytes : List Byte) : OpcodeAssigned.Statement (.desS32 bytes) := rfl
theorem OpcodeAssigned.desU64 (bytes : List Byte) : OpcodeAssigned.Statement (.desU64 bytes) := rfl
theorem OpcodeAssigned.desS64 (bytes : List Byte) : OpcodeAssigned.Statement (.desS64 bytes) := rfl
theorem OpcodeAssigned.desF32 (bytes : List Byte) : OpcodeAssigned.Statement (.desF32 bytes) := rfl
theorem OpcodeAssigned.desF64 (bytes : List Byte) : OpcodeAssigned.Statement (.desF64 bytes) := rfl
theorem OpcodeAssigned.txU8 (id : Ident) (v : BitVec 8) : OpcodeAssigned.Statement (.txU8 id v) := rfl
theorem OpcodeAssigned.txS8 (id : Ident) (v : BitVec 8) : OpcodeAssigned.Statement (.txS8 id v) := rfl
theorem OpcodeAssigned.txU16 (id : Ident) (v : BitVec 16) : OpcodeAssigned.Statement (.txU16 id v) := rfl
theorem OpcodeAssigned.txS16 (id : Ident) (v : BitVec 16) : OpcodeAssigned.Statement (.txS16 id v) := rfl
theorem OpcodeAssigned.txU32 (id : Ident) (v : BitVec 32) : OpcodeAssigned.Statement (.txU32 id v) := rfl
theorem OpcodeAssigned.txS32 (id : Ident) (v : BitVec 32) : OpcodeAssigned.Statement (.txS32 id v) := rfl
theorem OpcodeAssigned.txU64 (id : Ident) (v : BitVec 64) : OpcodeAssigned.Statement (.txU64 id v) := rfl
theorem OpcodeAssigned.txS64 (id : Ident) (v : BitVec 64) : OpcodeAssigned.Statement (.txS64 id v) := rfl
theorem OpcodeAssigned.txF32 (id : Ident) (v : BitVec 32) : OpcodeAssigned.Statement (.txF32 id v) := rfl
theorem OpcodeAssigned.txF64 (id : Ident) (v : BitVec 64) : OpcodeAssigned.Statement (.txF64 id v) := rfl
theorem OpcodeAssigned.recvU8 : OpcodeAssigned.Statement (.recvU8) := rfl
theorem OpcodeAssigned.recvS8 : OpcodeAssigned.Statement (.recvS8) := rfl
theorem OpcodeAssigned.recvU16 : OpcodeAssigned.Statement (.recvU16) := rfl
theorem OpcodeAssigned.recvS16 : OpcodeAssigned.Statement (.recvS16) := rfl
theorem OpcodeAssigned.recvU32 : OpcodeAssigned.Statement (.recvU32) := rfl
theorem OpcodeAssigned.recvS32 : OpcodeAssigned.Statement (.recvS32) := rfl
theorem OpcodeAssigned.recvU64 : OpcodeAssigned.Statement (.recvU64) := rfl
theorem OpcodeAssigned.recvS64 : OpcodeAssigned.Statement (.recvS64) := rfl
theorem OpcodeAssigned.recvF32 : OpcodeAssigned.Statement (.recvF32) := rfl
theorem OpcodeAssigned.recvF64 : OpcodeAssigned.Statement (.recvF64) := rfl

end Sys2Proof.Laws
end

