-- ==== Sys2Proof/Tests/Slice0.lean ====
section
/-! SUPPORT. Small tests, one step each: the checks of WellFormed, every constructor's decoding from a word
written out from the code map of `30_encoding.md` R84, test vectors of `95_test_vectors.md`, and for every
statement with hypotheses a theorem `witness_<statement>` that a concrete state and operands meet them all. -/

namespace Sys2Proof.Tests

open Sys2Proof Sys2Proof.Machine

/-- A small instance: one-byte identifiers, little-endian, at most two payload bytes, 8-bit ticks. -/
def small : Params where
  idWidth := .one
  byteOrder := .le
  maxPayload := 2
  tickW := 8
  idleTimeout := 5
  enabledInit := true
  errorReplyEnabled := true
  sigChecksum := 0xFF
  sigTimeout := 0xFE
  sigLength := 0xFD
  sigUnknownId := 0xFC
  sigAck := 0xFB
  sigNack := 0xFA
  reservedLo := 0xF0

/-- The small instance right after reset. -/
def smallReset : State := State.resetWith small

/-- The next `RX.TICK` on `s` polls `b` at the tick `n`. -/
def polls (s : State) (b : Byte) (n : Nat) : State := { s with source := [b.setWidth 9], ticks := [n] }

/-- The next `RX.TICK` on `s` polls no byte at the tick `n`. -/
def silent (s : State) (n : Nat) : State := { s with source := [0x100], ticks := [n] }

/-- `s` holds the validated frame with identifier `id` and this payload. -/
def held (s : State) (id : Ident) (payload : List Byte) : State :=
  { s with
    rxfId := id
    rxfLen := payload.length
    rxfPayload := payload ++ List.replicate (s.params.maxPayload.val - payload.length) 0
    rxfValid := true }

/-- The events after an operation. -/
def eventsOf : Out → List Event
  | .next s => s.events
  | _ => []

/-- The results after an operation. -/
def resultsOf : Out → List Result
  | .next s => s.results
  | _ => []

/-- The cursor after an operation. -/
def cursorOf : Out → Option Nat
  | .next s => some s.cursor
  | _ => none

/-- The reason an operation is refused. -/
def refusalOf : Out → Option Refusal
  | .refused r => some r
  | _ => none

/-! ### WellFormed: an ill-formed term for each check -/

theorem test_wellFormed_crc16_short : Instr.wellFormed small (.crc16 3 [0x31, 0x32]) = false := by decide

theorem test_wellFormed_txRaw_short : Instr.wellFormed small (.txRaw 0x42 2 [0x01]) = false := by decide

theorem test_wellFormed_txRaw_clamped : Instr.wellFormed small (.txRaw 0x42 9 [0x01, 0x02]) = true := by decide

theorem test_wellFormed_txRaw_wideId : Instr.wellFormed small (.txRaw 0x100 0 []) = false := by decide

theorem test_wellFormed_sigUnknownId_wideId : Instr.wellFormed small (.sigUnknownId 0x100) = false := by decide

theorem test_wellFormed_tx_wideId :
    ∀ t ∈ [ValType.u8, .s8, .u16, .s16, .u32, .s32, .u64, .s64, .f32, .f64],
      Instr.wellFormed small (Instr.tx t 0x100 0) = false ∧ Instr.wellFormed small (Instr.tx t 0xFF 0) = true := by
  decide

theorem test_wellFormed_des_width :
    ∀ t ∈ [ValType.u8, .s8, .u16, .s16, .u32, .s32, .u64, .s64, .f32, .f64],
      Instr.wellFormed small (Instr.des t (List.replicate (t.width - 1) 0)) = false ∧
        Instr.wellFormed small (Instr.des t (List.replicate (t.width + 1) 0)) = false ∧
        Instr.wellFormed small (Instr.des t (List.replicate t.width 0)) = true := by
  decide

/-! ### Decoding: one word of every operation, from R79, R80 and R84 -/

theorem test_decode_rxTick : decode Config.reference [0x01] = .ok (.rxTick) := by decide

theorem test_decode_cfgEnable : decode Config.reference [0x02] = .ok (.cfgEnable) := by decide

theorem test_decode_cfgDisable : decode Config.reference [0x03] = .ok (.cfgDisable) := by decide

theorem test_decode_crc16 :
    decode Config.reference [0x04, 0x00, 0x02, 0x31, 0x32, 0x33] =
      .ok (.crc16 2 [0x31, 0x32, 0x33]) := by decide

theorem test_decode_txRaw :
    decode Config.reference [0x05, 0x12, 0x34, 0x01, 0x02, 0xAA, 0xBB] =
      .ok (.txRaw 0x1234 0x0102 [0xAA, 0xBB]) := by decide

theorem test_decode_txRaw_narrow :
    decode small [0x05, 0x12, 0x00, 0x02, 0xAA, 0xBB] = .ok (.txRaw 0x12 2 [0xAA, 0xBB]) := by decide

theorem test_decode_sigUnknownId :
    decode Config.reference [0x06, 0xDE, 0xAD] = .ok (.sigUnknownId 0xDEAD) := by decide

theorem test_decode_sigAck : decode Config.reference [0x07] = .ok (.sigAck) := by decide

theorem test_decode_sigNack : decode Config.reference [0x08] = .ok (.sigNack) := by decide

theorem test_decode_serU8 : decode Config.reference [0x10, 0xA5] = .ok (.serU8 0xA5) := by decide

theorem test_decode_serS8 : decode Config.reference [0x11, 0xA5] = .ok (.serS8 0xA5) := by decide

theorem test_decode_serU16 : decode Config.reference [0x12, 0xBE, 0xEF] = .ok (.serU16 0xBEEF) := by decide

theorem test_decode_serS16 : decode Config.reference [0x13, 0xBE, 0xEF] = .ok (.serS16 0xBEEF) := by decide

theorem test_decode_serU32 :
    decode Config.reference [0x14, 0xDE, 0xAD, 0xBE, 0xEF] = .ok (.serU32 0xDEADBEEF) := by decide

theorem test_decode_serS32 :
    decode Config.reference [0x15, 0xDE, 0xAD, 0xBE, 0xEF] = .ok (.serS32 0xDEADBEEF) := by decide

theorem test_decode_serU64 :
    decode Config.reference [0x16, 0x01, 0x23, 0x45, 0x67, 0x89, 0xAB, 0xCD, 0xEF] =
      .ok (.serU64 0x0123456789ABCDEF) := by decide

theorem test_decode_serS64 :
    decode Config.reference [0x17, 0x01, 0x23, 0x45, 0x67, 0x89, 0xAB, 0xCD, 0xEF] =
      .ok (.serS64 0x0123456789ABCDEF) := by decide

theorem test_decode_serF32 :
    decode Config.reference [0x18, 0xDE, 0xAD, 0xBE, 0xEF] = .ok (.serF32 0xDEADBEEF) := by decide

theorem test_decode_serF64 :
    decode Config.reference [0x19, 0x01, 0x23, 0x45, 0x67, 0x89, 0xAB, 0xCD, 0xEF] =
      .ok (.serF64 0x0123456789ABCDEF) := by decide

theorem test_decode_desU8 : decode Config.reference [0x20, 0xA5] = .ok (.desU8 [0xA5]) := by decide

theorem test_decode_desS8 : decode Config.reference [0x21, 0xA5] = .ok (.desS8 [0xA5]) := by decide

theorem test_decode_desU16 :
    decode Config.reference [0x22, 0xBE, 0xEF] = .ok (.desU16 [0xBE, 0xEF]) := by decide

theorem test_decode_desS16 :
    decode Config.reference [0x23, 0xBE, 0xEF] = .ok (.desS16 [0xBE, 0xEF]) := by decide

theorem test_decode_desU32 :
    decode Config.reference [0x24, 0xDE, 0xAD, 0xBE, 0xEF] =
      .ok (.desU32 [0xDE, 0xAD, 0xBE, 0xEF]) := by decide

theorem test_decode_desS32 :
    decode Config.reference [0x25, 0xDE, 0xAD, 0xBE, 0xEF] =
      .ok (.desS32 [0xDE, 0xAD, 0xBE, 0xEF]) := by decide

theorem test_decode_desU64 :
    decode Config.reference [0x26, 0x01, 0x23, 0x45, 0x67, 0x89, 0xAB, 0xCD, 0xEF] =
      .ok (.desU64 [0x01, 0x23, 0x45, 0x67, 0x89, 0xAB, 0xCD, 0xEF]) := by decide

theorem test_decode_desS64 :
    decode Config.reference [0x27, 0x01, 0x23, 0x45, 0x67, 0x89, 0xAB, 0xCD, 0xEF] =
      .ok (.desS64 [0x01, 0x23, 0x45, 0x67, 0x89, 0xAB, 0xCD, 0xEF]) := by decide

theorem test_decode_desF32 :
    decode Config.reference [0x28, 0xDE, 0xAD, 0xBE, 0xEF] =
      .ok (.desF32 [0xDE, 0xAD, 0xBE, 0xEF]) := by decide

theorem test_decode_desF64 :
    decode Config.reference [0x29, 0x01, 0x23, 0x45, 0x67, 0x89, 0xAB, 0xCD, 0xEF] =
      .ok (.desF64 [0x01, 0x23, 0x45, 0x67, 0x89, 0xAB, 0xCD, 0xEF]) := by decide

theorem test_decode_txU8 :
    decode Config.reference [0x30, 0x12, 0x34, 0xA5] = .ok (.txU8 0x1234 0xA5) := by decide

theorem test_decode_txS8 :
    decode Config.reference [0x31, 0x12, 0x34, 0xA5] = .ok (.txS8 0x1234 0xA5) := by decide

theorem test_decode_txU16 :
    decode Config.reference [0x32, 0x12, 0x34, 0xBE, 0xEF] = .ok (.txU16 0x1234 0xBEEF) := by decide

theorem test_decode_txS16 :
    decode Config.reference [0x33, 0x12, 0x34, 0xBE, 0xEF] = .ok (.txS16 0x1234 0xBEEF) := by decide

theorem test_decode_txU32 :
    decode Config.reference [0x34, 0x12, 0x34, 0xDE, 0xAD, 0xBE, 0xEF] =
      .ok (.txU32 0x1234 0xDEADBEEF) := by decide

theorem test_decode_txS32 :
    decode Config.reference [0x35, 0x12, 0x34, 0xDE, 0xAD, 0xBE, 0xEF] =
      .ok (.txS32 0x1234 0xDEADBEEF) := by decide

theorem test_decode_txU64 :
    decode Config.reference [0x36, 0x12, 0x34, 0x01, 0x23, 0x45, 0x67, 0x89, 0xAB, 0xCD, 0xEF] =
      .ok (.txU64 0x1234 0x0123456789ABCDEF) := by decide

theorem test_decode_txS64 :
    decode Config.reference [0x37, 0x12, 0x34, 0x01, 0x23, 0x45, 0x67, 0x89, 0xAB, 0xCD, 0xEF] =
      .ok (.txS64 0x1234 0x0123456789ABCDEF) := by decide

theorem test_decode_txF32 :
    decode Config.reference [0x38, 0x12, 0x34, 0xDE, 0xAD, 0xBE, 0xEF] =
      .ok (.txF32 0x1234 0xDEADBEEF) := by decide

theorem test_decode_txF64 :
    decode Config.reference [0x39, 0x12, 0x34, 0x01, 0x23, 0x45, 0x67, 0x89, 0xAB, 0xCD, 0xEF] =
      .ok (.txF64 0x1234 0x0123456789ABCDEF) := by decide

theorem test_decode_recvU8 : decode Config.reference [0x40] = .ok (.recvU8) := by decide

theorem test_decode_recvS8 : decode Config.reference [0x41] = .ok (.recvS8) := by decide

theorem test_decode_recvU16 : decode Config.reference [0x42] = .ok (.recvU16) := by decide

theorem test_decode_recvS16 : decode Config.reference [0x43] = .ok (.recvS16) := by decide

theorem test_decode_recvU32 : decode Config.reference [0x44] = .ok (.recvU32) := by decide

theorem test_decode_recvS32 : decode Config.reference [0x45] = .ok (.recvS32) := by decide

theorem test_decode_recvU64 : decode Config.reference [0x46] = .ok (.recvU64) := by decide

theorem test_decode_recvS64 : decode Config.reference [0x47] = .ok (.recvS64) := by decide

theorem test_decode_recvF32 : decode Config.reference [0x48] = .ok (.recvF32) := by decide

theorem test_decode_recvF64 : decode Config.reference [0x49] = .ok (.recvF64) := by decide

/-- The reserved codes at both ends of each range of R85, and their neighbours. -/
theorem test_decode_reserved :
    (∀ op ∈ ([0x00, 0x09, 0x0F, 0x1A, 0x1F, 0x2A, 0x2F, 0x3A, 0x3F, 0x4A, 0x4F, 0x50, 0xFF] : List Byte),
      decode Config.reference [op] = .error (.reservedOpcode op)) ∧
      ∀ op ∈ ([0x01, 0x08, 0x10, 0x19, 0x20, 0x29, 0x30, 0x39, 0x40, 0x49] : List Byte),
        decode Config.reference [op] ≠ .error (.reservedOpcode op) := by
  decide

theorem test_decode_operandLength :
    decode Config.reference [0x01, 0x00] = .error (.operandLength 0x01) ∧
      decode Config.reference [0x22, 0xBE] = .error (.operandLength 0x22) ∧
      decode Config.reference [0x05, 0x12, 0x34, 0x00] = .error (.operandLength 0x05) ∧
      decode Config.reference [] = .error .emptyWord := by
  decide

theorem test_decodeTableWord :
    decodeTableWord 8 0x32 = some (.txU16 0 0) ∧ decodeTableWord 8 0x05 = some (.txRaw 0 0 []) ∧
      decodeTableWord 8 0x27 = some (.desS64 [0, 0, 0, 0, 0, 0, 0, 0]) ∧ decodeTableWord 8 0x50 = none := by
  decide

/-- The operation presented by `withFetchWord` is the one the next step runs. -/
theorem test_withFetchWord :
    resultsOf (step (State.reset.withFetchWord 8 0x12)) = [.ok (.bytes [0x00, 0x00])] := by
  decide

/-! ### One step of each operation, on vectors of `95_test_vectors.md` -/

/-- V28. -/
theorem test_crc16 :
    resultsOf (exec (.crc16 3 [0x31, 0x32, 0x33, 0x34]) State.reset) = [.ok (.crc 0x9752)] ∧
      refusalOf (exec (.crc16 5 [0x31, 0x32]) State.reset) = some .shortSpan := by
  decide +kernel

theorem test_serU8 :
    resultsOf (exec (.serU8 0xA5) State.reset) = [.ok (.bytes [0xA5])] ∧
      resultsOf (exec (.serU8 0xA5) smallReset) = [.ok (.bytes [0xA5])] := by
  decide

theorem test_desU8 :
    resultsOf (exec (.desU8 [0xA5]) State.reset) = [.ok (.pattern .u8 0xA5)] ∧
      resultsOf (exec (.desU8 [0xA5]) smallReset) = [.ok (.pattern .u8 0xA5)] := by
  decide

theorem test_serS8 :
    resultsOf (exec (.serS8 0xFF) State.reset) = [.ok (.bytes [0xFF])] ∧
      resultsOf (exec (.serS8 0xFF) smallReset) = [.ok (.bytes [0xFF])] := by
  decide

theorem test_desS8 :
    resultsOf (exec (.desS8 [0xFF]) State.reset) = [.ok (.pattern .s8 0xFF)] ∧
      resultsOf (exec (.desS8 [0xFF]) smallReset) = [.ok (.pattern .s8 0xFF)] := by
  decide

theorem test_serU16 :
    resultsOf (exec (.serU16 0xBEEF) State.reset) = [.ok (.bytes [0xBE, 0xEF])] ∧
      resultsOf (exec (.serU16 0xBEEF) smallReset) = [.ok (.bytes [0xEF, 0xBE])] := by
  decide

theorem test_desU16 :
    resultsOf (exec (.desU16 [0xBE, 0xEF]) State.reset) = [.ok (.pattern .u16 0xBEEF)] ∧
      resultsOf (exec (.desU16 [0xEF, 0xBE]) smallReset) = [.ok (.pattern .u16 0xBEEF)] := by
  decide

theorem test_serS16 :
    resultsOf (exec (.serS16 0x1234) State.reset) = [.ok (.bytes [0x12, 0x34])] ∧
      resultsOf (exec (.serS16 0x1234) smallReset) = [.ok (.bytes [0x34, 0x12])] := by
  decide

theorem test_desS16 :
    resultsOf (exec (.desS16 [0x12, 0x34]) State.reset) = [.ok (.pattern .s16 0x1234)] ∧
      resultsOf (exec (.desS16 [0x34, 0x12]) smallReset) = [.ok (.pattern .s16 0x1234)] := by
  decide

theorem test_serU32 :
    resultsOf (exec (.serU32 0xDEADBEEF) State.reset) = [.ok (.bytes [0xDE, 0xAD, 0xBE, 0xEF])] ∧
      resultsOf (exec (.serU32 0xDEADBEEF) smallReset) = [.ok (.bytes [0xEF, 0xBE, 0xAD, 0xDE])] := by
  decide

theorem test_desU32 :
    resultsOf (exec (.desU32 [0xDE, 0xAD, 0xBE, 0xEF]) State.reset) = [.ok (.pattern .u32 0xDEADBEEF)] ∧
      resultsOf (exec (.desU32 [0xEF, 0xBE, 0xAD, 0xDE]) smallReset) = [.ok (.pattern .u32 0xDEADBEEF)] := by
  decide

theorem test_serS32 :
    resultsOf (exec (.serS32 0xFFFFFFFE) State.reset) = [.ok (.bytes [0xFF, 0xFF, 0xFF, 0xFE])] ∧
      resultsOf (exec (.serS32 0xFFFFFFFE) smallReset) = [.ok (.bytes [0xFE, 0xFF, 0xFF, 0xFF])] := by
  decide

theorem test_desS32 :
    resultsOf (exec (.desS32 [0xFF, 0xFF, 0xFF, 0xFE]) State.reset) = [.ok (.pattern .s32 0xFFFFFFFE)] ∧
      resultsOf (exec (.desS32 [0xFE, 0xFF, 0xFF, 0xFF]) smallReset) = [.ok (.pattern .s32 0xFFFFFFFE)] := by
  decide

theorem test_serU64 :
    resultsOf (exec (.serU64 0x0123456789ABCDEF) State.reset) =
        [.ok (.bytes [0x01, 0x23, 0x45, 0x67, 0x89, 0xAB, 0xCD, 0xEF])] ∧
      resultsOf (exec (.serU64 0x0123456789ABCDEF) smallReset) =
          [.ok (.bytes [0xEF, 0xCD, 0xAB, 0x89, 0x67, 0x45, 0x23, 0x01])] := by
  decide

theorem test_desU64 :
    resultsOf (exec (.desU64 [0x01, 0x23, 0x45, 0x67, 0x89, 0xAB, 0xCD, 0xEF]) State.reset) =
        [.ok (.pattern .u64 0x0123456789ABCDEF)] ∧
      resultsOf (exec (.desU64 [0xEF, 0xCD, 0xAB, 0x89, 0x67, 0x45, 0x23, 0x01]) smallReset) =
          [.ok (.pattern .u64 0x0123456789ABCDEF)] := by
  decide

theorem test_serS64 :
    resultsOf (exec (.serS64 0x8000000000000000) State.reset) =
        [.ok (.bytes [0x80, 0x00, 0x00, 0x00, 0x00, 0x00, 0x00, 0x00])] ∧
      resultsOf (exec (.serS64 0x8000000000000000) smallReset) =
          [.ok (.bytes [0x00, 0x00, 0x00, 0x00, 0x00, 0x00, 0x00, 0x80])] := by
  decide

theorem test_desS64 :
    resultsOf (exec (.desS64 [0x80, 0x00, 0x00, 0x00, 0x00, 0x00, 0x00, 0x00]) State.reset) =
        [.ok (.pattern .s64 0x8000000000000000)] ∧
      resultsOf (exec (.desS64 [0x00, 0x00, 0x00, 0x00, 0x00, 0x00, 0x00, 0x80]) smallReset) =
          [.ok (.pattern .s64 0x8000000000000000)] := by
  decide

theorem test_serF32 :
    resultsOf (exec (.serF32 0x4048F5C3) State.reset) = [.ok (.bytes [0x40, 0x48, 0xF5, 0xC3])] ∧
      resultsOf (exec (.serF32 0x4048F5C3) smallReset) = [.ok (.bytes [0xC3, 0xF5, 0x48, 0x40])] := by
  decide

theorem test_desF32 :
    resultsOf (exec (.desF32 [0x40, 0x48, 0xF5, 0xC3]) State.reset) = [.ok (.pattern .f32 0x4048F5C3)] ∧
      resultsOf (exec (.desF32 [0xC3, 0xF5, 0x48, 0x40]) smallReset) = [.ok (.pattern .f32 0x4048F5C3)] := by
  decide

theorem test_serF64 :
    resultsOf (exec (.serF64 0x40091EB851EB851F) State.reset) =
        [.ok (.bytes [0x40, 0x09, 0x1E, 0xB8, 0x51, 0xEB, 0x85, 0x1F])] ∧
      resultsOf (exec (.serF64 0x40091EB851EB851F) smallReset) =
          [.ok (.bytes [0x1F, 0x85, 0xEB, 0x51, 0xB8, 0x1E, 0x09, 0x40])] := by
  decide

theorem test_desF64 :
    resultsOf (exec (.desF64 [0x40, 0x09, 0x1E, 0xB8, 0x51, 0xEB, 0x85, 0x1F]) State.reset) =
        [.ok (.pattern .f64 0x40091EB851EB851F)] ∧
      resultsOf (exec (.desF64 [0x1F, 0x85, 0xEB, 0x51, 0xB8, 0x1E, 0x09, 0x40]) smallReset) =
          [.ok (.pattern .f64 0x40091EB851EB851F)] := by
  decide

/-- V200. -/
theorem test_txU8 :
    eventsOf (exec (.txU8 0x1234 0xA5) State.reset) =
      [.sink [0x12, 0x34, 0x01, 0xA5, 0x39, 0xD4]] := by
  decide +kernel

/-- V201. -/
theorem test_txS8 :
    eventsOf (exec (.txS8 0x1234 0xFF) State.reset) =
      [.sink [0x12, 0x34, 0x01, 0xFF, 0xC2, 0x6B]] := by
  decide +kernel

/-- V202. -/
theorem test_txU16 :
    eventsOf (exec (.txU16 0x1234 0xBEEF) State.reset) =
      [.sink [0x12, 0x34, 0x02, 0xBE, 0xEF, 0xF9, 0x62]] := by
  decide +kernel

/-- V203. -/
theorem test_txS16 :
    eventsOf (exec (.txS16 0x1234 0xFFFE) State.reset) =
      [.sink [0x12, 0x34, 0x02, 0xFF, 0xFE, 0xC5, 0x8F]] := by
  decide +kernel

/-- V204. -/
theorem test_txU32 :
    eventsOf (exec (.txU32 0x1234 0xDEADBEEF) State.reset) =
      [.sink [0x12, 0x34, 0x04, 0xDE, 0xAD, 0xBE, 0xEF, 0x33, 0xE4]] := by
  decide +kernel

/-- V205. -/
theorem test_txS32 :
    eventsOf (exec (.txS32 0x1234 0xFFFFFFFF) State.reset) =
      [.sink [0x12, 0x34, 0x04, 0xFF, 0xFF, 0xFF, 0xFF, 0x6E, 0x7C]] := by
  decide +kernel

/-- V206. -/
theorem test_txU64 :
    eventsOf (exec (.txU64 0x1234 0x0123456789ABCDEF) State.reset) =
      [.sink [0x12, 0x34, 0x08, 0x01, 0x23, 0x45, 0x67, 0x89, 0xAB, 0xCD, 0xEF, 0x75, 0x8A]] := by
  decide +kernel

/-- V207. -/
theorem test_txS64 :
    eventsOf (exec (.txS64 0x1234 0x8000000000000000) State.reset) =
      [.sink [0x12, 0x34, 0x08, 0x80, 0x00, 0x00, 0x00, 0x00, 0x00, 0x00, 0x00, 0x21, 0x5E]] := by
  decide +kernel

/-- V208. -/
theorem test_txF32 :
    eventsOf (exec (.txF32 0x1234 0x4048F5C3) State.reset) =
      [.sink [0x12, 0x34, 0x04, 0x40, 0x48, 0xF5, 0xC3, 0x28, 0x38]] := by
  decide +kernel

/-- V209. -/
theorem test_txF64 :
    eventsOf (exec (.txF64 0x1234 0x40091EB851EB851F) State.reset) =
      [.sink [0x12, 0x34, 0x08, 0x40, 0x09, 0x1E, 0xB8, 0x51, 0xEB, 0x85, 0x1F, 0xE3, 0x0B]] := by
  decide +kernel

/-- V304, V305, V303. -/
theorem test_signals :
    eventsOf (exec .sigAck State.reset) = [.sink [0xFF, 0xFB, 0x00, 0x00, 0x58]] ∧
      eventsOf (exec .sigNack State.reset) = [.sink [0xFF, 0xFA, 0x00, 0x33, 0x69]] ∧
      eventsOf (exec (.sigUnknownId 0xDEAD) State.reset) =
          [.sink [0xFF, 0xFC, 0x02, 0xDE, 0xAD, 0xB6, 0xDF]] := by
  decide +kernel

/-- A disabled channel transmits nothing and is enabled again. -/
theorem test_disabled :
    eventsOf (exec .sigAck (State.reset.setEnabled false)) = [] ∧
      eventsOf (exec (.txRaw 0x1234 0 []) (State.reset.setEnabled false)) = [] ∧
      exec .cfgDisable State.reset = .next (State.reset.setEnabled false) ∧
      exec .cfgEnable (State.reset.setEnabled false) = .next State.reset :=
  ⟨rfl, rfl, rfl, rfl⟩

/-- The frame of V3: 0xBEEF as `U16` under the identifier 0xDEAD. -/
theorem test_txRaw :
    eventsOf (exec (.txRaw 0xDEAD 2 [0xBE, 0xEF, 0x55]) State.reset) =
      [.sink [0xDE, 0xAD, 0x02, 0xBE, 0xEF, 0x74, 0x19]] := by
  decide +kernel

/-- V500. -/
theorem test_recvU16 :
    resultsOf (exec .recvU16 (held State.reset 0xDEAD [0xBE, 0xEF])) = [.ok (.pattern .u16 0xBEEF)] := by
  decide

/-- V501. -/
theorem test_recvS16 :
    resultsOf (exec .recvS16 (held State.reset 0xDEAD [0xBE, 0xEF])) = [.ok (.pattern .s16 0xBEEF)] := by
  decide

/-- V504. -/
theorem test_recvF32 :
    resultsOf (exec .recvF32 (held State.reset 0x1234 [0x40, 0x48, 0xF5, 0xC3])) =
        [.ok (.pattern .f32 0x4048F5C3)] := by
  decide

/-- V505. -/
theorem test_recvU32 :
    resultsOf (exec .recvU32 (held State.reset 0x1234 [0x40, 0x48, 0xF5, 0xC3])) =
        [.ok (.pattern .u32 0x4048F5C3)] := by
  decide

/-- V509. -/
theorem test_recvS8 :
    resultsOf (exec .recvS8 (held State.reset 0x0007 [0xFF])) = [.ok (.pattern .s8 0xFF)] := by
  decide

/-- V510. -/
theorem test_recvF64 :
    resultsOf (exec .recvF64 (held State.reset 0x0008 [0x7F, 0xF8, 0x00, 0x00, 0x00, 0x00, 0x00, 0x00])) =
        [.ok (.pattern .f64 0x7FF8000000000000)] := by
  decide

/-- V511. -/
theorem test_recvS64 :
    resultsOf (exec .recvS64 (held State.reset 0x0008 [0x80, 0x00, 0x00, 0x00, 0x00, 0x00, 0x00, 0x00])) =
        [.ok (.pattern .s64 0x8000000000000000)] := by
  decide

theorem test_recvU8 :
    resultsOf (exec .recvU8 (held State.reset 0x1234 [0xA5])) = [.ok (.pattern .u8 0xA5)] := by
  decide

theorem test_recvS32 :
    resultsOf (exec .recvS32 (held State.reset 0x1234 [0xFF, 0xFF, 0xFF, 0xFE])) =
        [.ok (.pattern .s32 0xFFFFFFFE)] := by
  decide

theorem test_recvU64 :
    resultsOf (exec .recvU64 (held State.reset 0x1234 [0x01, 0x23, 0x45, 0x67, 0x89, 0xAB, 0xCD, 0xEF])) =
        [.ok (.pattern .u64 0x0123456789ABCDEF)] := by
  decide

/-- V502. -/
theorem test_recv_lengthMismatch :
    resultsOf (exec .recvU32 (held State.reset 0xDEAD [0xBE, 0xEF])) = [.lengthMismatch] ∧
      eventsOf (exec .recvU32 (held State.reset 0xDEAD [0xBE, 0xEF])) =
        [.sink [0xFF, 0xFD, 0x02, 0xDE, 0xAD, 0xC0, 0x6B]] := by
  decide +kernel

/-- V530. -/
theorem test_recv_beforeFrame : refusalOf (exec .recvF64 State.reset) = some .noValidFrame := by decide

/-- P1, steps 2 to 8: the first byte, and the last byte of the frame. -/
theorem test_rxTick_byte :
    cursorOf (exec .rxTick (polls State.reset 0xDE 10)) = some 1 ∧
      eventsOf (exec .rxTick (polls
        { State.reset with
          cursor := 6, rxbuf := [(0, 0xDE), (1, 0xAD), (2, 0x02), (3, 0xBE), (4, 0xEF), (5, 0x74)] } 0x19 16)) =
        [.handler 0xDEAD 2 [0xBE, 0xEF] 0x7419] := by
  decide +kernel

/-- P3, steps 11 and 12: the partial frame survives 5 ticks and is discarded at 6; P2, step 7: a corrupted
frame. -/
theorem test_rxTick_errors :
    cursorOf (exec .rxTick (silent { smallReset with cursor := 3, lastActivity := 5 } 10)) = some 3 ∧
      cursorOf (exec .rxTick (silent { smallReset with cursor := 3, lastActivity := 5 } 11)) = some 0 ∧
      eventsOf (exec .rxTick (polls
        { State.reset with
          cursor := 6, rxbuf := [(0, 0xDE), (1, 0xAD), (2, 0x02), (3, 0xBE), (4, 0xEE), (5, 0x74)] } 0x19 6)) =
        [.sink [0xFF, 0xFF, 0x00, 0xCC, 0x9C]] := by
  decide +kernel

/-- A step carries a reset out: the parameters stay, the partial frame is lost. -/
theorem test_reset :
    step { smallReset with port := [.reset], cursor := 3, lastActivity := 9 } = .next smallReset := rfl

/-- Entry 1 and entry 255 of the table of R104, and the check value of R106. -/
theorem test_crcTable :
    crcStep 0 1 = 0x1021 ∧ crcStep 0 0xFF = 0x1EF0 ∧ crcTable.getD 255 0 = 0x1EF0 := by
  decide

/-! ### Witnesses: concrete states and operands that meet the hypotheses of each statement -/

theorem witness_decodeEncodeRoundTrip :
    Instr.wellFormed small (.txRaw 0xFF 3 [0x01, 0x02]) = true ∧
      Instr.wellFormed small (.crc16 2 [0x01, 0x02]) = true ∧ Instr.wellFormed small (.desU16 [0x01, 0x02]) = true := by
  decide

theorem witness_wordHasOneMeaning :
    decode small [0x32, 0xFF, 0xBE, 0xEF] = .ok (.txU16 0xFF 0xBEEF) := by decide

/-- A state that meets the invariant, with a partial frame of three bytes. -/
def partialState : State :=
  { smallReset with cursor := 3, rxbuf := [(0, 0x42), (1, 0x02), (2, 0xAA)], lastActivity := 255 }

theorem partialState_safe : partialState.Safe where
  legal := by decide
  bufWf := by decide
  bufBelow := by decide
  cursorShort := .inr (by decide)
  lastBits := by decide
  idFits := by decide
  lenFits := by decide
  payloadSize := by decide
  payloadTail := by decide
  fresh := by decide
  replyFixed := by decide
  timeoutFixed := by decide
  eventsValid := fun _ h => absurd h (List.not_mem_nil)

/-- A state that meets the invariant and holds a frame with an empty payload. -/
theorem held_safe : (held smallReset 0xFF []).Safe where
  legal := by decide
  bufWf := by decide
  bufBelow := by decide
  cursorShort := .inl (by decide)
  lastBits := by decide
  idFits := by decide
  lenFits := by decide
  payloadSize := by decide
  payloadTail := by decide
  fresh := by decide
  replyFixed := by decide
  timeoutFixed := by decide
  eventsValid := fun _ h => absurd h (List.not_mem_nil)

theorem witness_reservedCodesRefused :
    ({ smallReset with port := [.operation [0x50, 0x01]] }).port = .operation (0x50 :: [0x01]) :: [] ∧
      ({ smallReset with port := [.operation [0x01]] }).port = .operation (0x01 :: []) :: [] := ⟨rfl, rfl⟩

theorem witness_stepRunsDecodedOperation :
    ({ smallReset with port := [.operation [0x02], .reset] }).port = .operation [0x02] :: [.reset] ∧
      decode smallReset.params [0x02] = .ok .cfgEnable := ⟨rfl, by decide⟩

theorem witness_crcLinear : ([0x01, 0x02] : List Byte).length = ([0xFF, 0x00] : List Byte).length := rfl

theorem witness_crcDetectsSingleBitErrors : (0 : Nat) < 8 ∧ (7 : Nat) < 8 := by decide

theorem witness_crc16Completes :
    (2 : Word16).toNat ≤ ([0x31, 0x32] : List Byte).length ∧ ([0x31, 0x32] : List Byte).length < (3 : Word16).toNat := by
  decide

theorem witness_byteOrderFunctions :
    (1 ≤ 1 ∧ 0xFF < 2 ^ (8 * 1)) ∧ (1 ≤ 8 ∧ 0xFFFFFFFFFFFFFFFF < 2 ^ (8 * 8)) ∧ 1 ≤ ([0x00] : List Byte).length := by
  decide

theorem witness_deserializeCompletes :
    ([0xA5] : List Byte).length = 1 ∧ ([0xBE, 0xEF] : List Byte).length = 2 ∧
      ([0xDE, 0xAD, 0xBE, 0xEF] : List Byte).length = 4 ∧ (List.replicate 8 (0xFF : Byte)).length = 8 := by
  decide

theorem witness_deserializeWrongWidthRefused :
    ([] : List Byte).length ≠ 1 ∧ ([0xBE, 0xEF, 0x00] : List Byte).length ≠ 2 ∧
      ([0xDE, 0xAD, 0xBE] : List Byte).length ≠ 4 ∧ (List.replicate 9 (0xFF : Byte)).length ≠ 8 := by
  decide

theorem witness_codecRoundTrip : ([0xBE, 0xEF] : List Byte).length = ValType.width .u16 := rfl

theorem witness_codecDependsOnByteOrderOnly :
    smallReset.params.byteOrder = (partialState.setEnabled false).params.byteOrder ∧
      smallReset ≠ partialState.setEnabled false ∧ ([0xBE, 0xEF] : List Byte).length = ValType.width .s16 :=
  ⟨rfl, by decide, rfl⟩

theorem witness_builtFrameLayout :
    ([0x01, 0x02] : List Byte).length ≤ small.maxPayload.val ∧ ([] : List Byte).length ≤ small.maxPayload.val := by
  decide

/-- Below, at and above the clamp, and one byte short. -/
theorem witness_transmitRawCompletes :
    (0xFF : Ident).toNat ≤ smallReset.params.idMax ∧
      min (0 : Word16).toNat smallReset.params.maxPayload.val ≤ ([] : List Byte).length ∧
      min (2 : Word16).toNat smallReset.params.maxPayload.val ≤ ([0x01, 0x02] : List Byte).length ∧
      min (0xFFFF : Word16).toNat smallReset.params.maxPayload.val ≤ ([0x01, 0x02] : List Byte).length ∧
      ([0x01] : List Byte).length < min (0xFFFF : Word16).toNat smallReset.params.maxPayload.val := by
  decide

theorem witness_transmitTypedCompletes :
    (0xFF : Ident).toNat ≤ smallReset.params.idMax ∧ (0xFFFF : Ident).toNat ≤ State.reset.params.idMax := by
  decide

theorem witness_pseudoOperationsExpand :
    smallReset.params.legal = true ∧ (0xFF : Ident).toNat ≤ smallReset.params.idMax := by decide

/-- A state that has already sent the smallest valid frame. -/
theorem witness_emittedFramesValid :
    let s : State := { smallReset with port := [.operation [0x07]], events := [.sink [0x00, 0x00, 0x00, 0x00]] }
    (∀ f, Event.sink f ∈ s.events → ValidFrame s.params f) ∧ ∃ t, step s = .next t := by
  refine ⟨fun f h => ?_, _, rfl⟩
  simp only [List.mem_singleton, Event.sink.injEq] at h
  subst h
  unfold ValidFrame
  decide +kernel

theorem witness_wideIdentifierRefused : smallReset.params.idMax < (0x100 : Ident).toNat := by decide

theorem witness_signalOperationsComplete : (0xFF : Ident).toNat ≤ smallReset.params.idMax := by decide

theorem witness_rawTransmitIgnoresReplyGate :
    (0xFF : Ident).toNat ≤ smallReset.params.idMax ∧
      min (2 : Word16).toNat smallReset.params.maxPayload.val ≤ ([0x01, 0x02] : List Byte).length := by
  decide

theorem witness_disabledTickDoesNothing : (partialState.setEnabled false).cfg.enabled = false := rfl

/-- The first byte, the byte number H, and a byte at capacity. -/
theorem witness_acceptedByteStored :
    (let s := polls smallReset 0x42 1
      let u := s.withByte 0x42
      s.cfg.enabled = true ∧ s.rxIn = some 0x42 ∧ s.cursor ≤ s.params.cap ∧ u.cursor < s.params.idBytes + 1) ∧
    (let s := polls { smallReset with cursor := 1, rxbuf := [(0, 0x42)] } 0x02 1
      let u := s.withByte 0x02
      let lc := min (Memory.read u.rxbuf s.params.idBytes).toNat s.params.maxPayload.val
      s.cfg.enabled = true ∧ s.rxIn = some 0x02 ∧ s.cursor ≤ s.params.cap ∧
        u.cursor ≠ s.params.idBytes + 1 + lc + 2) ∧
    (let s := polls { smallReset with cursor := 6 } 0x02 1
      let u := s.withByte 0x02
      let lc := min (Memory.read u.rxbuf s.params.idBytes).toNat s.params.maxPayload.val
      s.cfg.enabled = true ∧ s.rxIn = some 0x02 ∧ s.cursor ≤ s.params.cap ∧ s.cursor = s.params.cap ∧
        u.cursor ≠ s.params.idBytes + 1 + lc + 2) := by
  decide

/-- The shortest frame, and the longest one with a LENGTH byte above the clamp. -/
theorem witness_validFrameDelivered :
    (let s := polls { smallReset with cursor := 3 } 0x00 1
      let u := s.withByte 0x00
      let lc := min (Memory.read u.rxbuf s.params.idBytes).toNat s.params.maxPayload.val
      s.cfg.enabled = true ∧ s.rxIn = some 0x00 ∧ s.cursor ≤ s.params.cap ∧
        u.cursor = s.params.idBytes + 1 + lc + 2 ∧
        (crc16 (u.memRead 0 (s.params.idBytes + 1 + lc))).toNat =
          wireNat s.params.byteOrder (u.memRead (s.params.idBytes + 1 + lc) 2)) ∧
    (let s := polls
        { smallReset with
          cursor := 5, rxbuf := [(0, 0x42), (1, 0xFF), (2, 0x01), (3, 0x02), (4, 0xE4)] } 0x5F 1
      let u := s.withByte 0x5F
      let lc := min (Memory.read u.rxbuf s.params.idBytes).toNat s.params.maxPayload.val
      s.cfg.enabled = true ∧ s.rxIn = some 0x5F ∧ s.cursor ≤ s.params.cap ∧ lc = 2 ∧
        u.cursor = s.params.idBytes + 1 + lc + 2 ∧
        (crc16 (u.memRead 0 (s.params.idBytes + 1 + lc))).toNat =
          wireNat s.params.byteOrder (u.memRead (s.params.idBytes + 1 + lc) 2)) := by
  decide +kernel

theorem witness_checksumMismatchResetsBuffer :
    (let s := polls { smallReset with cursor := 3 } 0x01 1
      let u := s.withByte 0x01
      let lc := min (Memory.read u.rxbuf s.params.idBytes).toNat s.params.maxPayload.val
      s.cfg.enabled = true ∧ s.rxIn = some 0x01 ∧ s.cursor ≤ s.params.cap ∧
        u.cursor = s.params.idBytes + 1 + lc + 2 ∧
        (crc16 (u.memRead 0 (s.params.idBytes + 1 + lc))).toNat ≠
          wireNat s.params.byteOrder (u.memRead (s.params.idBytes + 1 + lc) 2)) := by
  decide +kernel

/-- Across the wrap of the tick counter: 6 ticks are too many, 5 are not; and an empty buffer. -/
theorem witness_idleTickTimesOutStrictly :
    (let s := silent partialState 5;
      s.cfg.enabled = true ∧ s.rxIn = none ∧ s.cursor ≠ 0 ∧
        (s.cfg.idleTimeout : Int) < ((s.now : Int) - (s.lastActivity : Int)) % ((2 ^ s.params.tickW : Nat) : Int)) ∧
    (let s := silent partialState 4;
      s.cfg.enabled = true ∧ s.rxIn = none ∧ s.cursor ≠ 0 ∧
        ¬(s.cfg.idleTimeout : Int) < ((s.now : Int) - (s.lastActivity : Int)) % ((2 ^ s.params.tickW : Nat) : Int)) ∧
    (let s := silent smallReset 200;
      s.cfg.enabled = true ∧ s.rxIn = none ∧ s.cursor = 0) := by
  decide

theorem witness_tickCompletesUpToCapacity :
    ({ smallReset with cursor := 6 }).cursor ≤ smallReset.params.cap ∧
      (let s := polls { smallReset with cursor := 7 } 0x01 1;
        s.params.cap < s.cursor ∧ s.cfg.enabled = true ∧ ∃ b, s.rxIn = some b) :=
  ⟨by decide, by decide, rfl, _, rfl⟩

theorem witness_oneEventPerTick : ∃ t, exec .rxTick (silent partialState 5) = .next t := ⟨_, rfl⟩

theorem witness_tickWritesOneBufferByte :
    (∃ t, Memory.wf (polls partialState 0xBB 0).rxbuf = true ∧ exec .rxTick (polls partialState 0xBB 0) = .next t ∧
        (polls partialState 0xBB 0).cfg.enabled = true ∧ (polls partialState 0xBB 0).rxIn = some 0xBB) ∧
      (∃ t, exec .rxTick (silent partialState 0) = .next t ∧ (silent partialState 0).rxIn = none) ∧
      ∃ t, exec .rxTick (partialState.setEnabled false) = .next t ∧ (partialState.setEnabled false).cfg.enabled = false :=
  ⟨⟨_, by decide, rfl, rfl, by decide⟩, ⟨_, rfl, rfl⟩, _, rfl, rfl⟩

/-- The frame of the identifier 0x42 and the payload 2A, with silences before, inside (of exactly
`idle_timeout` ticks, across the wrap) and none after its last byte. -/
def loopScript : Script :=
  [(none, 100), (some 0x42, 252), (some 0x01, 253), (none, 2), (some 0x2A, 3), (some 0xD4, 4)]

theorem witness_loopBackDelivers :
    smallReset.cfg.enabled = true ∧ smallReset.cursor = 0 ∧ Memory.wf smallReset.rxbuf = true ∧
      (0x42 : Ident).toNat ≤ smallReset.params.idMax ∧
      ([0x2A] : List Byte).length ≤ smallReset.params.maxPayload.val ∧
      (loopScript ++ [(some 0xC5, 4)] : Script).filterMap (fun x => x.1) = buildFrame smallReset.params 0x42 [0x2A] ∧
      Prompt smallReset.params.tickW smallReset.cfg.idleTimeout none (loopScript ++ [(some 0xC5, 4)]) := by
  refine ⟨rfl, rfl, rfl, by decide, by decide, by decide +kernel, ?_⟩
  simp only [loopScript, List.cons_append, List.nil_append, Prompt]
  decide

/-- The same frame with bit 7 of its payload byte flipped. -/
theorem witness_singleBitCorruptionRejected :
    let f := buildFrame smallReset.params 0x42 [0x2A]
    let before : Script := [(some 0x42, 252), (some 0x01, 253), (some 0xAA, 3), (some 0xD4, 4)]
    smallReset.cfg.enabled = true ∧ smallReset.cursor = 0 ∧ Memory.wf smallReset.rxbuf = true ∧
      ([0x2A] : List Byte).length ≤ smallReset.params.maxPayload.val ∧
      2 < f.length ∧ 2 ≠ smallReset.params.idBytes ∧ 7 < 8 ∧
      (before ++ [(some 0xC5, 4)] : Script).filterMap (fun x => x.1) = f.set 2 (f.getD 2 0 ^^^ (1#8 <<< 7)) ∧
      Prompt smallReset.params.tickW smallReset.cfg.idleTimeout none (before ++ [(some 0xC5, 4)]) := by
  refine ⟨rfl, rfl, rfl, by decide, by decide, by decide, by decide, by decide +kernel, ?_⟩
  simp only [List.cons_append, List.nil_append, Prompt]
  decide

/-- From Empty, from Accumulating with the byte number H, and from AwaitingPayloadAndCrc with a byte before the
last. -/
theorem witness_receiveStateTransitions :
    (let s := polls { partialState with cursor := 0 } 0x42 1;
        s.Safe ∧ s.rxState = some .empty ∧ ∃ t, exec .rxTick s = .next t) ∧
      (let s := polls { partialState with cursor := 1 } 0x02 1;
        s.Safe ∧ s.rxState = some .accumulating ∧ s.cursor + 1 = s.params.hdr ∧ s.rxIn.isSome = true ∧
          ∃ t, exec .rxTick s = .next t) ∧
      (let s := polls partialState 0xBB 1;
        s.Safe ∧ s.rxState = some .awaitingPayloadAndCrc ∧ ∃ t, exec .rxTick s = .next t) :=
  ⟨⟨{ partialState_safe with cursorShort := .inl (by decide) }, by decide, _, rfl⟩,
    ⟨{ partialState_safe with cursorShort := .inl (by decide) }, by decide, by decide, by decide, _, rfl⟩,
    { partialState_safe with }, by decide, _, rfl⟩

/-- One tick past the idle timeout from Accumulating and from AwaitingPayloadAndCrc, and the byte number T of
the frame with identifier 0x42 and two payload bytes. -/
theorem witness_receiveStateTransitions_toEmpty :
    (let s := silent { partialState with cursor := 1 } 5;
        s.Safe ∧ s.rxState = some .accumulating ∧ s.rxIn = none ∧
          (s.cfg.idleTimeout : Int) < ((s.now : Int) - (s.lastActivity : Int)) % ((2 ^ s.params.tickW : Nat) : Int) ∧
          ∃ t, exec .rxTick s = .next t) ∧
      (let s := silent partialState 5;
        s.Safe ∧ s.rxState = some .awaitingPayloadAndCrc ∧ s.rxIn = none ∧
          (s.cfg.idleTimeout : Int) < ((s.now : Int) - (s.lastActivity : Int)) % ((2 ^ s.params.tickW : Nat) : Int) ∧
          ∃ t, exec .rxTick s = .next t) ∧
      (let s := polls { partialState with cursor := 5 } 0xBB 1;
        s.Safe ∧ s.rxState = some .awaitingPayloadAndCrc ∧ s.rxIn.isSome = true ∧ s.cursor + 1 = s.frameTotal ∧
          ∃ t, exec .rxTick s = .next t) :=
  ⟨⟨{ partialState_safe with cursorShort := .inl (by decide) }, by decide, by decide, by decide, _, rfl⟩,
    ⟨{ partialState_safe with }, by decide, by decide, by decide, _, rfl⟩,
    { partialState_safe with cursorShort := .inr (by decide) }, by decide, by decide, by decide, _, rfl⟩

theorem witness_staleBufferUnobservable :
    let s : State := { polls partialState 0xBB 1 with port := [.operation [0x01]] }
    let t : State := { s with rxbuf := [(0, 0x42), (1, 0x02), (2, 0xAA), (3, 0x77), (5, 0x99)] }
    Memory.wf s.rxbuf = true ∧ Memory.wf t.rxbuf = true ∧ SameBelowCursor s t ∧ s ≠ t := by
  refine ⟨by decide, by decide, ⟨rfl, ?_⟩, by decide⟩
  decide

theorem witness_outputsAreWriteOnly :
    ∃ t, step { smallReset with port := [.operation [0x07]] } = .next t := ⟨_, rfl⟩

theorem witness_accessTable :
    Instr.sigAck ≠ .rxTick ∧ (∃ t, exec .sigAck partialState = .next t) ∧
      (∃ t, exec (.serU8 0) partialState = .next t) ∧ (∃ t, exec .recvU8 (held smallReset 0xFF []) = .next t) :=
  ⟨by decide, ⟨_, rfl⟩, ⟨_, rfl⟩, _, rfl⟩

theorem witness_configImmutable :
    (∃ t, exec .sigAck partialState = .next t) ∧
      ∃ t, step { smallReset with port := [.operation [0x03]] } = .next t ∧
        ∀ rest, ({ smallReset with port := [.operation [0x03]] }).port ≠ .reset :: rest := by
  refine ⟨⟨_, rfl⟩, _, rfl, fun rest h => ?_⟩
  cases h

theorem witness_typedReceiveCompletes :
    (held State.reset 0xDEAD [0xBE, 0xEF]).rxfValid = true ∧ (held State.reset 0xDEAD [0xFF]).rxfLen = 1 ∧
      (held State.reset 0xDEAD [0xBE, 0xEF]).rxfLen = 2 ∧
      (held State.reset 0xDEAD [0x40, 0x48, 0xF5, 0xC3]).rxfLen = 4 ∧
      (held State.reset 0xDEAD (List.replicate 8 0xFF)).rxfLen = 8 :=
  ⟨rfl, rfl, rfl, rfl, rfl⟩

theorem witness_typedReceiveLengthMismatch :
    (held State.reset 0xDEAD []).rxfValid = true ∧ (held State.reset 0xDEAD []).rxfLen ≠ 1 ∧
      (held State.reset 0xDEAD [0xFF]).rxfLen ≠ 2 ∧
      (held State.reset 0xDEAD [0xBE, 0xEF, 0x00]).rxfLen ≠ 4 ∧
      (held State.reset 0xDEAD (List.replicate 9 0xFF)).rxfLen ≠ 8 := by
  decide

theorem witness_typedReceiveRefusedBeforeFrame : State.reset.rxfValid = false := rfl

theorem witness_oversizeTypedReceiveNeverSucceeds :
    (held smallReset 0xFF []).Safe ∧ (held smallReset 0xFF []).params.maxPayload.val < ValType.width .u32 ∧
      ∃ t, exec (Instr.recv .u32) (held smallReset 0xFF []) = .next t :=
  ⟨held_safe, by decide, _, rfl⟩

theorem witness_resetRequestResets :
    ({ partialState with port := [.reset, .operation [0x07]] }).port = .reset :: [.operation [0x07]] := rfl

theorem witness_resetMeetsInvariant : Config.reference.legal = true ∧ small.legal = true := by decide

theorem witness_stepKeepsInvariant :
    ({ held smallReset 0xFF [] with port := [.operation [0x40]] } : State).Safe ∧
      ∃ t, step { held smallReset 0xFF [] with port := [.operation [0x40]] } = .next t :=
  ⟨{ held_safe with }, _, rfl⟩

theorem witness_invariantForbidsFault :
    (held smallReset 0xFF []).Safe ∧ Instr.wellFormed small (.txRaw 0xFF 3 [0x01, 0x02]) = true ∧
      (held smallReset 0xFF []).rxfValid = true :=
  ⟨held_safe, by decide, rfl⟩

theorem witness_bufferNeverFullBetweenOperations : partialState.Safe := partialState_safe

theorem witness_idlePortDoesNothing : partialState.port = [] := rfl

theorem witness_operationCodeMap :
    decode small [0x39, 0xFF, 1, 2, 3, 4, 5, 6, 7, 8] = .ok (.txF64 0xFF 0x0102030405060708) := by decide

end Sys2Proof.Tests
end

section
/-! The byte-order functions read back what they wrote, and every built frame is a valid one. -/

namespace Sys2Proof

theorem beNat_lt (bs : List Byte) : beNat bs < 2 ^ (8 * bs.length) := by
  induction bs with
  | nil => simp [beNat]
  | cons b bs ih =>
    have hb : b.toNat + 1 ≤ 2 ^ 8 := b.isLt
    calc beNat (b :: bs) < (b.toNat + 1) * 2 ^ (8 * bs.length) := by rw [beNat]; linarith
      _ ≤ 2 ^ 8 * 2 ^ (8 * bs.length) := Nat.mul_le_mul_right _ hb
      _ = 2 ^ (8 * (b :: bs).length) := by rw [← pow_add, List.length_cons]; congr 1; omega

theorem leNat_lt (bs : List Byte) : leNat bs < 2 ^ (8 * bs.length) := by
  induction bs with
  | nil => simp [leNat]
  | cons b bs ih =>
    have hb : b.toNat < 2 ^ 8 := b.isLt
    calc leNat (b :: bs) < 2 ^ 8 * 2 ^ (8 * bs.length) := by rw [leNat]; omega
      _ = 2 ^ (8 * (b :: bs).length) := by rw [← pow_add, List.length_cons]; congr 1; omega

/-- `dec_N` of `N` bytes is an `8N`-bit number (`20_memory.md` R50). -/
theorem dec_lt (o : ByteOrder) (bs : List Byte) : dec o bs < 2 ^ (8 * bs.length) := by
  cases o
  · exact beNat_lt bs
  · exact leNat_lt bs

theorem beNat_beBytes (n v : Nat) : beNat (beBytes n v) = v % 2 ^ (8 * n) := by
  induction n with
  | zero => simp [beBytes, beNat, Nat.mod_one]
  | succ n ih =>
    have hpow : 2 ^ (8 * (n + 1)) = 2 ^ (8 * n) * 2 ^ 8 := by rw [← pow_add]; congr 1
    rw [beBytes, beNat, ih, beBytes_length, BitVec.toNat_ofNat, Nat.shiftRight_eq_div_pow, hpow,
      Nat.mod_mul]
    ring

theorem leNat_leBytes (n v : Nat) : leNat (leBytes n v) = v % 2 ^ (8 * n) := by
  induction n generalizing v with
  | zero => simp [leBytes, leNat, Nat.mod_one]
  | succ n ih =>
    have hpow : 2 ^ (8 * (n + 1)) = 2 ^ 8 * 2 ^ (8 * n) := by rw [← pow_add]; congr 1; omega
    rw [leBytes, leNat, ih, BitVec.toNat_ofNat, Nat.shiftRight_eq_div_pow, hpow, Nat.mod_mul]

/-- `dec_N(enc_N(v)) = trunc_8N(v)` in either byte order (`20_memory.md` R50). -/
theorem dec_enc (o : ByteOrder) (n v : Nat) : dec o (enc o n v) = v % 2 ^ (8 * n) := by
  cases o
  · exact beNat_beBytes n v
  · exact leNat_leBytes n v

theorem two_le_hdr (p : Params) : 2 ≤ p.hdr := by
  have := idBytes_cases p
  rw [hdr_eq]
  omega

theorem idBytes_lt_hdr (p : Params) : p.idBytes < p.hdr := Nat.lt_succ_self _

/-- What `ID_W` bytes decode to fits in `ID_MAX` (`30_encoding.md` R72, R76). -/
theorem decId_le_idMax (p : Params) {bs : List Byte} (h : bs.length = p.idBytes) :
    (decId p bs).toNat ≤ p.idMax := by
  have hlt : dec p.byteOrder bs < 2 ^ (8 * p.idBytes) := h ▸ dec_lt p.byteOrder bs
  calc (decId p bs).toNat = dec p.byteOrder bs % 2 ^ 16 := BitVec.toNat_ofNat ..
    _ ≤ dec p.byteOrder bs := Nat.mod_le ..
    _ ≤ p.idMax := Nat.le_sub_one_of_lt hlt

namespace Machine

/-- The LENGTH byte of a built frame stands behind the identifier (`30_encoding.md` R70). -/
theorem buildFrame_lengthByte (p : Params) (id : Ident) (q : List Byte) :
    (buildFrame p id q).getD p.idBytes 0 = BitVec.ofNat 8 q.length := by
  rw [buildFrame, frameBody, List.append_assoc, List.append_assoc, List.getD_append_right _ _ _ _ (by simp)]
  simp

/-- A built frame is valid, whatever its identifier, when its payload is at most `MAX_PAYLOAD` bytes
(`43_tx_builder.md` R183). -/
theorem validFrame_buildFrame (p : Params) (id : Ident) {q : List Byte}
    (hq : q.length ≤ p.maxPayload.val) : ValidFrame p (buildFrame p id q) := by
  have hmax := maxPayload_le p
  have hlen : ((buildFrame p id q).getD p.idBytes 0).toNat = q.length := by
    rw [buildFrame_lengthByte, BitVec.toNat_ofNat]
    exact Nat.mod_eq_of_lt (by omega)
  have hbody : (buildFrame p id q).length - 2 = (frameBody p id q).length := by simp
  rw [ValidFrame, hlen, hbody, buildFrame_length]
  refine ⟨?_, ?_, rfl, hq, ?_⟩
  · rw [overhead_eq, hdr_eq]; omega
  · rw [cap_eq, hdr_eq]; omega
  · rw [buildFrame, List.drop_left, List.take_left, dec_enc]
    exact Nat.mod_eq_of_lt (crc16 _).isLt

end Machine

end Sys2Proof
end

section
/-! The operations by group, and what an operation other than `RX.TICK` can do. -/

namespace Sys2Proof

/-- The operations of `30_encoding.md` R84 by group: the typed groups once for all ten types. -/
theorem Instr.groupCases {motive : Instr → Prop} (rxTick : motive .rxTick)
    (cfgEnable : motive .cfgEnable) (cfgDisable : motive .cfgDisable)
    (crc16 : ∀ n bytes, motive (.crc16 n bytes)) (txRaw : ∀ id n bytes, motive (.txRaw id n bytes))
    (sigUnknownId : ∀ id, motive (.sigUnknownId id)) (sigAck : motive .sigAck)
    (sigNack : motive .sigNack) (ser : ∀ t v, motive (Instr.ser t v))
    (des : ∀ t bs, motive (Instr.des t bs)) (tx : ∀ t id v, motive (Instr.tx t id v))
    (recv : ∀ t, motive (Instr.recv t)) (i : Instr) : motive i := by
  cases i with
  | rxTick => exact rxTick
  | cfgEnable => exact cfgEnable
  | cfgDisable => exact cfgDisable
  | crc16 n bytes => exact crc16 n bytes
  | txRaw id n bytes => exact txRaw id n bytes
  | sigUnknownId id => exact sigUnknownId id
  | sigAck => exact sigAck
  | sigNack => exact sigNack
  | serU8 v => exact ser .u8 v
  | serS8 v => exact ser .s8 v
  | serU16 v => exact ser .u16 v
  | serS16 v => exact ser .s16 v
  | serU32 v => exact ser .u32 v
  | serS32 v => exact ser .s32 v
  | serU64 v => exact ser .u64 v
  | serS64 v => exact ser .s64 v
  | serF32 v => exact ser .f32 v
  | serF64 v => exact ser .f64 v
  | desU8 bs => exact des .u8 bs
  | desS8 bs => exact des .s8 bs
  | desU16 bs => exact des .u16 bs
  | desS16 bs => exact des .s16 bs
  | desU32 bs => exact des .u32 bs
  | desS32 bs => exact des .s32 bs
  | desU64 bs => exact des .u64 bs
  | desS64 bs => exact des .s64 bs
  | desF32 bs => exact des .f32 bs
  | desF64 bs => exact des .f64 bs
  | txU8 id v => exact tx .u8 id v
  | txS8 id v => exact tx .s8 id v
  | txU16 id v => exact tx .u16 id v
  | txS16 id v => exact tx .s16 id v
  | txU32 id v => exact tx .u32 id v
  | txS32 id v => exact tx .s32 id v
  | txU64 id v => exact tx .u64 id v
  | txS64 id v => exact tx .s64 id v
  | txF32 id v => exact tx .f32 id v
  | txF64 id v => exact tx .f64 id v
  | recvU8 => exact recv .u8
  | recvS8 => exact recv .s8
  | recvU16 => exact recv .u16
  | recvS16 => exact recv .s16
  | recvU32 => exact recv .u32
  | recvS32 => exact recv .s32
  | recvU64 => exact recv .u64
  | recvS64 => exact recv .s64
  | recvF32 => exact recv .f32
  | recvF64 => exact recv .f64

namespace Machine

@[simp] theorem exec_rxTick (s : State) : exec .rxTick s = execRxTick s := rfl
@[simp] theorem exec_cfgEnable (s : State) : exec .cfgEnable s = .next (s.setEnabled true) := rfl
@[simp] theorem exec_cfgDisable (s : State) : exec .cfgDisable s = .next (s.setEnabled false) := rfl
@[simp] theorem exec_crc16 (n : Word16) (bytes : List Byte) (s : State) :
    exec (.crc16 n bytes) s = execCrc16 n bytes s := rfl
@[simp] theorem exec_txRaw (id : Ident) (n : Word16) (bytes : List Byte) (s : State) :
    exec (.txRaw id n bytes) s = execTxRaw id n bytes s := rfl
@[simp] theorem exec_sigUnknownId (id : Ident) (s : State) :
    exec (.sigUnknownId id) s = execSigUnknownId id s := rfl
@[simp] theorem exec_sigAck (s : State) : exec .sigAck s = .next (signal s.params.sigAck [] s) := rfl
@[simp] theorem exec_sigNack (s : State) : exec .sigNack s = .next (signal s.params.sigNack [] s) := rfl

@[simp] theorem exec_ser (t : ValType) (v : BitVec t.bits) (s : State) :
    exec (Instr.ser t v) s = serialize t v s := by
  cases t <;> rfl

@[simp] theorem exec_des (t : ValType) (bs : List Byte) (s : State) :
    exec (Instr.des t bs) s = deserialize t bs s := by
  cases t <;> rfl

@[simp] theorem exec_tx (t : ValType) (id : Ident) (v : BitVec t.bits) (s : State) :
    exec (Instr.tx t id v) s = transmit t id v s := by
  cases t <;> rfl

@[simp] theorem exec_recv (t : ValType) (s : State) : exec (Instr.recv t) s = recv t s := by
  cases t <;> rfl

/-- `CRC16`: the checksum, or refused for a short span (`40_crc.md` R103). -/
theorem execCrc16_cases (n : Word16) (bytes : List Byte) (s : State) :
    (n.toNat ≤ bytes.length ∧
      execCrc16 n bytes s = .next (s.giveResult (.ok (.crc (crc16 (bytes.take n.toNat)))))) ∨
    (bytes.length < n.toNat ∧ execCrc16 n bytes s = .refused .shortSpan) := by
  unfold execCrc16
  split
  · exact .inr ⟨‹_›, rfl⟩
  · exact .inl ⟨by omega, rfl⟩

/-- `TX.RAW`: the transmit path, or refused for a short span or a wide identifier (`43_tx_builder.md`
R172). -/
theorem execTxRaw_cases (id : Ident) (n : Word16) (bytes : List Byte) (s : State) :
    (s.params.idFits id = true ∧ clamp s.params n.toNat ≤ bytes.length ∧
      execTxRaw id n bytes s = .next (txRaw id bytes n.toNat s)) ∨
    (s.params.idFits id = true ∧ bytes.length < clamp s.params n.toNat ∧
      execTxRaw id n bytes s = .refused .shortSpan) ∨
    (s.params.idFits id = false ∧ execTxRaw id n bytes s = .refused .identifierTooWide) := by
  unfold execTxRaw
  split
  · split
    · exact .inr (.inl ⟨‹_›, ‹_›, rfl⟩)
    · exact .inl ⟨‹_›, by omega, rfl⟩
  · exact .inr (.inr ⟨Bool.eq_false_iff.mpr ‹_›, rfl⟩)

/-- `SIG.UNKNOWN_ID`: its signal, or refused for a wide identifier (`44_signals.md` R194). -/
theorem execSigUnknownId_cases (id : Ident) (s : State) :
    (s.params.idFits id = true ∧
      execSigUnknownId id s = .next (signal s.params.sigUnknownId (encId s.params id) s)) ∨
    (s.params.idFits id = false ∧ execSigUnknownId id s = .refused .identifierTooWide) := by
  unfold execSigUnknownId
  split
  · exact .inl ⟨‹_›, rfl⟩
  · exact .inr ⟨Bool.eq_false_iff.mpr ‹_›, rfl⟩

/-- What an operation other than `RX.TICK` does: it is refused, writes the enable flag, gives a result, sends
one frame, sends one signal, or reports a length mismatch. -/
theorem exec_cases {i : Instr} (hi : i ≠ .rxTick) (s : State) :
    (∃ q, exec i s = .refused q) ∨
    (∃ b, exec i s = .next (s.setEnabled b)) ∨
    (∃ r, exec i s = .next (s.giveResult r)) ∨
    (∃ id q n, exec i s = .next (txRaw id q n s)) ∨
    (∃ sig q, exec i s = .next (signal sig q s)) ∨
    (∃ id, exec i s = .next ((raise (.lengthMismatch id) s).giveResult .lengthMismatch)) := by
  induction i using Instr.groupCases with
  | rxTick => exact absurd rfl hi
  | cfgEnable => exact .inr (.inl ⟨_, rfl⟩)
  | cfgDisable => exact .inr (.inl ⟨_, rfl⟩)
  | crc16 n bytes =>
    obtain ⟨-, h⟩ | ⟨-, h⟩ := execCrc16_cases n bytes s
    · exact .inr (.inr (.inl ⟨_, h⟩))
    · exact .inl ⟨_, h⟩
  | txRaw id n bytes =>
    obtain ⟨-, -, h⟩ | ⟨-, -, h⟩ | ⟨-, h⟩ := execTxRaw_cases id n bytes s
    · exact .inr (.inr (.inr (.inl ⟨_, _, _, h⟩)))
    · exact .inl ⟨_, h⟩
    · exact .inl ⟨_, h⟩
  | sigUnknownId id =>
    obtain ⟨-, h⟩ | ⟨-, h⟩ := execSigUnknownId_cases id s
    · exact .inr (.inr (.inr (.inr (.inl ⟨_, _, h⟩))))
    · exact .inl ⟨_, h⟩
  | sigAck => exact .inr (.inr (.inr (.inr (.inl ⟨_, _, rfl⟩))))
  | sigNack => exact .inr (.inr (.inr (.inr (.inl ⟨_, _, rfl⟩))))
  | ser t v => exact .inr (.inr (.inl ⟨_, exec_ser t v s⟩))
  | des t bs =>
    rw [exec_des]
    obtain ⟨-, h⟩ | ⟨-, h⟩ := deserialize_cases t bs s
    · exact .inr (.inr (.inl ⟨_, h⟩))
    · exact .inl ⟨_, h⟩
  | tx t id v =>
    rw [exec_tx]
    obtain ⟨-, h⟩ | ⟨-, h⟩ := transmit_cases t id v s
    · exact .inr (.inr (.inr (.inl ⟨_, _, _, h⟩)))
    · exact .inl ⟨_, h⟩
  | recv t =>
    rw [exec_recv]
    obtain ⟨-, h⟩ | ⟨-, -, h⟩ | ⟨-, -, h⟩ := recv_cases t s
    · exact .inl ⟨_, h⟩
    · exact .inr (.inr (.inr (.inr (.inr ⟨_, h⟩))))
    · exact .inr (.inr (.inl ⟨_, h⟩))

/-- The transmit path adds at most one event and changes nothing else. -/
theorem txRaw_appends (id : Ident) (q : List Byte) (n : Nat) (s : State) :
    ∃ es, es.length ≤ 1 ∧ txRaw id q n s = { s with events := s.events ++ es } := by
  rw [txRaw_eq]
  split
  · exact ⟨_, List.length_singleton.le, rfl⟩
  · exact ⟨[], Nat.zero_le _, by rw [List.append_nil]⟩

/-- A signal adds at most one event and changes nothing else. -/
theorem signal_appends (sig : Ident) (q : List Byte) (s : State) :
    ∃ es, es.length ≤ 1 ∧ signal sig q s = { s with events := s.events ++ es } := by
  unfold signal
  split
  · exact txRaw_appends sig q _ s
  · exact ⟨[], Nat.zero_le _, by rw [List.append_nil]⟩

/-- An operation other than `RX.TICK` that completes changes the enable flag and adds at most one event and at
most one result; nothing else changes (`10_state.md` R41). -/
theorem exec_frame {i : Instr} {s t : State} (hi : i ≠ .rxTick) (h : exec i s = .next t) :
    ∃ b es rs, es.length ≤ 1 ∧ rs.length ≤ 1 ∧
      t = { s with cfg := { s.cfg with enabled := b }, events := s.events ++ es,
                   results := s.results ++ rs } := by
  obtain ⟨q, e⟩ | ⟨b, e⟩ | ⟨r, e⟩ | ⟨id, q, n, e⟩ | ⟨sig, q, e⟩ | ⟨id, e⟩ := exec_cases hi s <;>
    rw [e] at h <;> cases h
  · exact ⟨b, [], [], Nat.zero_le _, Nat.zero_le _, by simp [State.setEnabled]⟩
  · exact ⟨s.cfg.enabled, [], [r], Nat.zero_le _, le_rfl, by simp [State.giveResult]⟩
  · obtain ⟨es, hes, e⟩ := txRaw_appends id q n s
    exact ⟨s.cfg.enabled, es, [], hes, Nat.zero_le _, by simp [e]⟩
  · obtain ⟨es, hes, e⟩ := signal_appends sig q s
    exact ⟨s.cfg.enabled, es, [], hes, Nat.zero_le _, by simp [e]⟩
  · obtain ⟨es, hes, e⟩ := signal_appends s.params.sigLength (encId s.params id) s
    exact ⟨s.cfg.enabled, es, [_], hes, le_rfl, by rw [raise, e]; rfl⟩

/-- Steps 2 to 4 of `RX.TICK` store the byte as `State.withByte` says (`42_rx_assembler.md` R142, R143). -/
theorem storeByte_touch_takeInputs {s u : State} {b : Byte}
    (h : storeByte b (s.takeInputs.touch s.now) = some u) :
    s.cursor ≤ s.params.cap ∧ u = s.withByte b := by
  obtain ⟨hc, rfl⟩ := storeByte_some h
  refine ⟨hc, ?_⟩
  by_cases hcap : s.cursor = s.params.cap <;> simp [State.withByte, State.storeIndex, hcap]

theorem execRxTick_disabled {s : State} (he : s.cfg.enabled = false) : execRxTick s = .next s := by
  simp [execRxTick, he]

theorem execRxTick_noByte {s : State} (he : s.cfg.enabled = true) (hr : s.rxIn = none) :
    execRxTick s = .next (checkIdle s.now s.takeInputs) := by
  simp [execRxTick, he, hr]

theorem execRxTick_byte {s : State} {b : Byte} (he : s.cfg.enabled = true) (hr : s.rxIn = some b)
    (hc : s.cursor ≤ s.params.cap) : execRxTick s = .next (checkFrame (s.withByte b)) := by
  obtain ⟨u, hu, e⟩ | ⟨hc', -⟩ := acceptByte_cases s.now b s.takeInputs
  · obtain ⟨-, rfl⟩ := storeByte_touch_takeInputs hu
    simp [execRxTick, he, hr, e]
  · exact absurd hc hc'.not_ge

theorem execRxTick_fault {s : State} {b : Byte} (he : s.cfg.enabled = true) (hr : s.rxIn = some b)
    (hc : s.params.cap < s.cursor) : execRxTick s = .fault .rxbufOutOfRange := by
  obtain ⟨u, hu, -⟩ | ⟨-, e⟩ := acceptByte_cases s.now b s.takeInputs
  · exact absurd (storeByte_touch_takeInputs hu).1 hc.not_ge
  · simp [execRxTick, he, hr, e]

/-- What `RX.TICK` does: nothing when disabled; the idle check without a byte; with one, the completion test
once the byte is stored, or the fault above capacity. -/
theorem execRxTick_withByte (s : State) :
    (s.cfg.enabled = false ∧ execRxTick s = .next s) ∨
    (s.cfg.enabled = true ∧ s.rxIn = none ∧ execRxTick s = .next (checkIdle s.now s.takeInputs)) ∨
    (∃ b, s.cfg.enabled = true ∧ s.rxIn = some b ∧ s.cursor ≤ s.params.cap ∧
      execRxTick s = .next (checkFrame (s.withByte b))) ∨
    (∃ b, s.cfg.enabled = true ∧ s.rxIn = some b ∧ s.params.cap < s.cursor ∧
      execRxTick s = .fault .rxbufOutOfRange) := by
  obtain hoff | hnone | ⟨b, u, he, hr, hu, hx⟩ | hfault := execRxTick_cases s
  · exact .inl hoff
  · exact .inr (.inl hnone)
  · obtain ⟨hc, rfl⟩ := storeByte_touch_takeInputs hu
    exact .inr (.inr (.inl ⟨b, he, hr, hc, hx⟩))
  · exact .inr (.inr (.inr hfault))

theorem step_idle {s : State} (hp : s.port = []) : step s = .next s := by
  simp [step, State.fetch, hp]

theorem step_reset {s : State} {rest : List Request} (hp : s.port = .reset :: rest) :
    step s = .next { s with port := rest }.applyReset := by
  simp [step, State.fetch, hp]

theorem step_operation {s : State} {word : List Byte} {rest : List Request} {i : Instr}
    (hp : s.port = .operation word :: rest) (hd : decode s.params word = .ok i) :
    step s = exec i { s with port := rest } := by
  simp [step, State.fetch, hp, hd]

theorem step_undecodable {s : State} {word : List Byte} {rest : List Request} {e : DecodeError}
    (hp : s.port = .operation word :: rest) (hd : decode s.params word = .error e) :
    step s = .refused (.undecodable e) := by
  simp [step, State.fetch, hp, hd]

end Machine

end Sys2Proof
end

section
/-! The invariant of `10_state.md` R34 and R35 holds after reset and is kept by every step. -/

namespace Sys2Proof.Machine

/-- With nothing accumulated the receive state is Empty, whatever the buffer holds (`10_state.md` R31). -/
theorem rxState_of_cursor_zero {s : State} (h : s.cursor = 0) : s.rxState = some .empty := by
  simp [State.rxState, h]

theorem resetWith_safe {p : Params} (hp : p.legal = true) : (State.resetWith p).Safe where
  legal := hp
  bufWf := rfl
  bufBelow := rfl
  cursorShort := .inl (Nat.succ_pos _)
  lastBits := Nat.two_pow_pos _
  idFits := Nat.zero_le _
  lenFits := Nat.zero_le _
  payloadSize := List.length_replicate
  payloadTail := rfl
  fresh _ := ⟨rfl, rfl, rfl, rfl⟩
  replyFixed := rfl
  timeoutFixed := rfl
  eventsValid := by simp [State.resetWith]

/-- With nothing accumulated the cursor's clause of the invariant holds (`10_state.md` R35). -/
theorem cursor_zero_short (s : State) :
    ({ s with cursor := 0 } : State).cursor < s.params.hdr ∨
      ({ s with cursor := 0 } : State).cursor < ({ s with cursor := 0 } : State).frameTotal :=
  .inl (Nat.succ_pos _)

/-- A reset keeps the buffer and what was emitted; everything else is as after the first reset. -/
theorem applyReset_safe {s : State} (h : s.Safe) : s.applyReset.Safe :=
  { resetWith_safe h.legal with
    bufWf := h.bufWf
    bufBelow := h.bufBelow
    cursorShort := cursor_zero_short s.applyReset
    eventsValid := h.eventsValid }

theorem giveResult_safe {s : State} (h : s.Safe) (r : Result) : (s.giveResult r).Safe := { h with }

theorem setEnabled_safe {s : State} (h : s.Safe) (b : Bool) : (s.setEnabled b).Safe := { h with }

theorem port_safe {s : State} (h : s.Safe) (rest : List Request) :
    ({ s with port := rest } : State).Safe := { h with }

theorem takeInputs_safe {s : State} (h : s.Safe) : s.takeInputs.Safe := { h with }

/-- Emitting an event the block may emit keeps the invariant. -/
theorem emit_safe {s : State} (h : s.Safe) {e : Event} (he : ValidEvent s.params e) :
    (s.emit e).Safe :=
  { h with
    eventsValid := fun e' he' => by
      obtain hold | rfl := List.mem_append.mp he' |>.imp_right List.mem_singleton.mp
      · exact h.eventsValid e' hold
      · exact he }

/-- The transmit path keeps the invariant: what it emits is a valid frame (`43_tx_builder.md` R183). -/
theorem txRaw_safe {s : State} (h : s.Safe) (id : Ident) (q : List Byte) (n : Nat) :
    (txRaw id q n s).Safe := by
  rw [txRaw_eq]
  split
  · exact emit_safe h (validFrame_buildFrame _ _
      ((List.length_take_le _ _).trans (clamp_le _ _)))
  · exact h

theorem signal_safe {s : State} (h : s.Safe) (sig : Ident) (q : List Byte) : (signal sig q s).Safe := by
  unfold signal
  split
  · exact txRaw_safe h sig q _
  · exact h

/-- A sample of the tick source is a `TICK_W`-bit value (`10_state.md` R38). -/
theorem now_lt (s : State) : s.now < 2 ^ s.params.tickW := Nat.mod_lt _ (Nat.two_pow_pos _)

/-- The invariant without its clause on the cursor: what holds between steps 4 and 5 of `RX.TICK`, where the
cursor may stand at the end of the frame. -/
def State.SafeBody (s : State) : Prop := ({ s with cursor := 0 } : State).Safe

theorem State.Safe.body {s : State} (h : s.Safe) : s.SafeBody :=
  { h with cursorShort := cursor_zero_short s }

theorem State.SafeBody.safe {s : State} (h : s.SafeBody)
    (hc : s.cursor < s.params.hdr ∨ s.cursor < s.frameTotal) : s.Safe :=
  { h with cursorShort := hc }

theorem frameTotal_le_cap (s : State) : s.frameTotal ≤ s.params.cap := by
  have := clamp_le s.params (Memory.read s.rxbuf s.params.idBytes).toNat
  simp only [State.frameTotal, State.declaredLen, cap_eq, hdr_eq]
  omega

theorem hdr_lt_frameTotal (s : State) : s.params.hdr < s.frameTotal := by
  simp only [State.frameTotal]
  omega

/-- Between operations the buffer is not full (`10_state.md` R35). -/
theorem State.Safe.cursor_lt_cap {s : State} (h : s.Safe) : s.cursor < s.params.cap := by
  have := frameTotal_le_cap s
  have := hdr_lt_frameTotal s
  have := h.cursorShort
  omega

@[simp] theorem withByte_params (s : State) (b : Byte) : (s.withByte b).params = s.params := rfl

/-- From a state that meets the invariant an accepted byte is stored at the cursor (`42_rx_assembler.md`
R143). -/
theorem withByte_rxbuf {s : State} (h : s.Safe) (b : Byte) :
    (s.withByte b).rxbuf = Memory.write s.rxbuf s.cursor b := by
  simp only [State.withByte, if_neg h.cursor_lt_cap.ne]

theorem withByte_cursor {s : State} (h : s.Safe) (b : Byte) : (s.withByte b).cursor = s.cursor + 1 := by
  simp only [State.withByte, if_neg h.cursor_lt_cap.ne]

theorem withByte_body {s : State} (h : s.Safe) (b : Byte) : (s.withByte b).SafeBody :=
  { h with
    bufWf := Memory.wf_write h.bufWf _ b
    bufBelow := (congrArg (Memory.below s.params.cap) (withByte_rxbuf h b)).trans
      (Memory.below_write b h.cursor_lt_cap h.bufBelow)
    cursorShort := cursor_zero_short (s.withByte b)
    lastBits := now_lt s }

/-- `RX.TICK` from a state that meets the invariant: nothing when disabled, the idle check without a byte, the
completion test on the stored byte with one (`42_rx_assembler.md` R140, R148). -/
theorem execRxTick_of_safe {s : State} (h : s.Safe) :
    (s.cfg.enabled = false ∧ execRxTick s = .next s) ∨
    (s.cfg.enabled = true ∧ s.rxIn = none ∧ execRxTick s = .next (checkIdle s.now s.takeInputs)) ∨
    (∃ b, s.cfg.enabled = true ∧ s.rxIn = some b ∧ execRxTick s = .next (checkFrame (s.withByte b))) := by
  obtain hoff | hnone | ⟨b, he, hr, -, hx⟩ | ⟨b, -, -, hc, -⟩ := execRxTick_withByte s
  · exact .inl hoff
  · exact .inr (.inl hnone)
  · exact .inr (.inr ⟨b, he, hr, hx⟩)
  · exact absurd h.cursor_lt_cap (by omega)

/-- A byte stored behind the LENGTH byte leaves the length of the frame as it was. -/
theorem withByte_frameTotal {s : State} (h : s.Safe) (b : Byte) (hc : s.params.hdr ≤ s.cursor) :
    (s.withByte b).frameTotal = s.frameTotal := by
  have hne : s.cursor ≠ s.params.idBytes := by
    have := idBytes_lt_hdr s.params
    omega
  simp only [State.frameTotal, State.declaredLen, withByte_params, withByte_rxbuf h,
    Memory.read_write h.bufWf, if_neg hne]

/-- The completion test on a stored byte, in terms of the state before it. -/
theorem withByte_complete_iff {s : State} (h : s.Safe) (b : Byte) :
    ((s.withByte b).params.hdr ≤ (s.withByte b).cursor ∧
        (s.withByte b).cursor = (s.withByte b).frameTotal) ↔
      (s.params.hdr ≤ s.cursor ∧ s.cursor + 1 = s.frameTotal) := by
  rw [withByte_cursor h, withByte_params]
  by_cases hc : s.params.hdr ≤ s.cursor
  · simp only [withByte_frameTotal h b hc, hc, hc.trans (Nat.le_succ _), true_and]
  · have : s.params.hdr < (s.withByte b).frameTotal := hdr_lt_frameTotal (s.withByte b)
    omega

/-- After a stored byte the cursor has not passed the end of the frame (`10_state.md` R35). -/
theorem withByte_cursor_le {s : State} (h : s.Safe) (b : Byte) :
    (s.withByte b).cursor ≤ (s.withByte b).frameTotal := by
  rw [withByte_cursor h]
  by_cases hc : s.params.hdr ≤ s.cursor
  · have := h.cursorShort
    rw [withByte_frameTotal h b hc]
    omega
  · have : s.params.hdr < (s.withByte b).frameTotal := hdr_lt_frameTotal (s.withByte b)
    omega

@[simp] theorem memRead_length (s : State) (i n : Nat) : (s.memRead i n).length = n := by
  simp [State.memRead]

theorem recvId_le_idMax (s : State) : s.recvId.toNat ≤ s.params.idMax :=
  decId_le_idMax s.params (memRead_length s 0 _)

theorem declaredLen_le (s : State) : s.declaredLen ≤ s.params.maxPayload.val := clamp_le _ _

@[simp] theorem recvPayload_length (s : State) : s.recvPayload.length = s.declaredLen := memRead_length ..

/-- A delivery keeps the invariant: the registers are written together, zero-filled (`10_state.md` R24 to
R28), and the handler gets exactly `rxf_len` bytes (R39). -/
theorem deliver_safe {s : State} (h : s.SafeBody) : (deliver s).Safe := by
  have hlatch : ({ s.latchFrame with cursor := 0 } : State).Safe :=
    { h with
      idFits := recvId_le_idMax s
      lenFits := declaredLen_le s
      payloadSize := by
        have := declaredLen_le s
        simp only [State.latchFrame_rxfPayload, State.latchFrame_params, List.length_append,
          recvPayload_length, List.length_replicate]
        omega
      payloadTail := List.drop_left' (recvPayload_length s)
      fresh := fun hv => nomatch hv }
  have hevent : ValidEvent s.params (.handler s.recvId s.declaredLen s.recvPayload s.recvCrc) :=
    ⟨recvId_le_idMax s, declaredLen_le s, recvPayload_length s⟩
  exact emit_safe hlatch hevent

/-- Step 5 restores the invariant when the cursor is at most at the end of the frame. -/
theorem checkFrame_safe {s : State} (h : s.SafeBody) (hc : s.cursor ≤ s.frameTotal) :
    (checkFrame s).Safe := by
  obtain ⟨hn, e⟩ | ⟨-, -, e⟩ | ⟨-, -, e⟩ := checkFrame_cases s <;> rw [e]
  · exact h.safe (by omega)
  · exact deliver_safe h
  · exact signal_safe h _ _

theorem checkIdle_safe {s : State} (h : s.Safe) (now : Nat) : (checkIdle now s).Safe := by
  obtain ⟨-, e⟩ | ⟨-, e⟩ := checkIdle_cases now s <;> rw [e]
  · exact h
  · exact signal_safe h.body _ _

theorem execRxTick_safe {s t : State} (h : s.Safe) (hx : execRxTick s = .next t) : t.Safe := by
  obtain ⟨-, e⟩ | ⟨-, -, e⟩ | ⟨b, -, -, e⟩ := execRxTick_of_safe h <;> rw [e] at hx <;> cases hx
  · exact h
  · exact checkIdle_safe (takeInputs_safe h) _
  · exact checkFrame_safe (withByte_body h b) (withByte_cursor_le h b)

/-- Every operation that completes keeps the invariant. -/
theorem exec_safe {i : Instr} {s t : State} (h : s.Safe) (hx : exec i s = .next t) : t.Safe := by
  by_cases hi : i = .rxTick
  · subst hi
    exact execRxTick_safe h hx
  · obtain ⟨q, e⟩ | ⟨b, e⟩ | ⟨r, e⟩ | ⟨id, q, n, e⟩ | ⟨sig, q, e⟩ | ⟨id, e⟩ := exec_cases hi s <;>
      rw [e] at hx <;> cases hx
    · exact setEnabled_safe h b
    · exact giveResult_safe h r
    · exact txRaw_safe h id q n
    · exact signal_safe h sig q
    · exact giveResult_safe (signal_safe h _ _) _

/-- Settles O52: a step is idle, a reset or an operation, and each keeps the invariant. -/
theorem stepKeepsInvariant : Obligations.StepKeepsInvariant := by
  intro s t h hs
  obtain ⟨-, e⟩ | ⟨rest, -, e⟩ | ⟨w, rest, i, -, -, e⟩ | ⟨w, rest, err, -, -, e⟩ := step_cases s <;>
    rw [e] at hs
  · cases hs
    exact h
  · cases hs
    exact applyReset_safe (port_safe h rest)
  · exact exec_safe (port_safe h rest) hs
  · cases hs

/-- Settles O51. -/
theorem resetMeetsInvariant : Obligations.ResetMeetsInvariant := fun _ hp => resetWith_safe hp

/-- Settles O49. -/
theorem resetValues : Obligations.ResetValues := fun _ =>
  ⟨rfl, rxState_of_cursor_zero rfl, rfl, rfl, rfl, rfl, rfl, rfl, rfl, rfl, rfl⟩

/-- Settles O4. -/
theorem stepRunsDecodedOperation : Obligations.StepRunsDecodedOperation :=
  fun _ _ _ _ hp hd => step_operation hp hd

/-- Settles O54: the frame never reaches past `CAP`, and `CUR_W` is wide enough for `CAP`. -/
theorem bufferNeverFullBetweenOperations : Obligations.BufferNeverFullBetweenOperations := by
  intro s h
  have hlt := h.cursor_lt_cap
  have hcap : s.params.cap ≤ 260 := by
    have := maxPayload_le s.params
    have := idBytes_cases s.params
    rw [cap_eq]
    omega
  have hwide : s.params.cap + 1 ≤ 2 ^ s.params.curW := Nat.le_pow_clog Nat.one_lt_two _
  have hnarrow : s.params.curW ≤ 9 := Nat.clog_le_of_le_pow (by omega)
  exact ⟨hlt, by omega, hcap, hnarrow⟩

end Sys2Proof.Machine
end

section
/-! The receive states of `10_state.md` R31 and the transitions an `RX.TICK` makes between them. -/

namespace Sys2Proof.Machine

/-- The invocation accepts a byte (`42_rx_assembler.md` R141). -/
def State.TakesByte (s : State) : Prop := s.cfg.enabled = true ∧ s.rxIn.isSome = true

/-- The invocation polls no byte and the elapsed time exceeds the idle timeout, strictly
(`42_rx_assembler.md` R147). -/
def State.RunsOut (s : State) : Prop :=
  s.cfg.enabled = true ∧ s.rxIn = none ∧
    (s.cfg.idleTimeout : Int) < ((s.now : Int) - (s.lastActivity : Int)) % ((2 ^ s.params.tickW : Nat) : Int)

/-- The timeout test of step 6 in the integer arithmetic of `42_rx_assembler.md` R147. -/
theorem timedOut_takeInputs_iff (s : State) (now : Nat) :
    s.takeInputs.timedOut now = true ↔ s.cursor ≠ 0 ∧
      (s.cfg.idleTimeout : Int) < ((now : Int) - (s.lastActivity : Int)) % ((2 ^ s.params.tickW : Nat) : Int) := by
  rw [State.timedOut, Bool.and_eq_true, decide_eq_true_iff, decide_eq_true_iff, State.elapsed, truncSub,
    Int.lt_toNat]
  rfl

/-- What an `RX.TICK` does to the cursor: it stays, is emptied by the idle timeout, counts the accepted byte,
or is emptied when that byte is the frame's last. -/
theorem execRxTick_cursor {s t : State} (h : s.Safe) (hx : execRxTick s = .next t) :
    (¬ s.TakesByte ∧ (s.RunsOut → s.cursor = 0) ∧ t.cursor = s.cursor) ∨
    (¬ s.TakesByte ∧ s.RunsOut ∧ t.cursor = 0) ∨
    (s.TakesByte ∧ ¬ s.RunsOut ∧ ¬ (s.params.hdr ≤ s.cursor ∧ s.cursor + 1 = s.frameTotal) ∧
      t.cursor = s.cursor + 1) ∨
    (s.TakesByte ∧ ¬ s.RunsOut ∧ (s.params.hdr ≤ s.cursor ∧ s.cursor + 1 = s.frameTotal) ∧
      t.cursor = 0) := by
  obtain ⟨he, e⟩ | ⟨he, hr, e⟩ | ⟨b, he, hr, e⟩ := execRxTick_of_safe h <;> rw [e] at hx <;> cases hx
  · exact .inl ⟨by simp [State.TakesByte, he], by simp [State.RunsOut, he], rfl⟩
  · have hbyte : ¬ s.TakesByte := by simp [State.TakesByte, hr]
    have htime := timedOut_takeInputs_iff s s.now
    obtain ⟨hn, e⟩ | ⟨hy, e⟩ := checkIdle_cases s.now s.takeInputs <;> rw [e]
    · refine .inl ⟨hbyte, fun hout => ?_, rfl⟩
      by_contra hc
      simp [htime.mpr ⟨hc, hout.2.2⟩] at hn
    · exact .inr (.inl ⟨hbyte, ⟨he, hr, (htime.mp hy).2⟩, by simp [raise_cursor]⟩)
  · have hbyte : s.TakesByte := by simp [State.TakesByte, he, hr]
    have hout : ¬ s.RunsOut := by simp [State.RunsOut, hr]
    have hdone := withByte_complete_iff h b
    obtain ⟨hn, e⟩ | ⟨hy, -, e⟩ | ⟨hy, -, e⟩ := checkFrame_cases (s.withByte b) <;> rw [e]
    · exact .inr (.inr (.inl ⟨hbyte, hout, fun hc => hn (hdone.mpr hc), withByte_cursor h b⟩))
    · exact .inr (.inr (.inr ⟨hbyte, hout, hdone.mp hy, rfl⟩))
    · exact .inr (.inr (.inr ⟨hbyte, hout, hdone.mp hy, by simp [raise_cursor]⟩))

@[simp] theorem checkIdle_params (now : Nat) (s : State) : (checkIdle now s).params = s.params := by
  obtain ⟨-, e⟩ | ⟨-, e⟩ := checkIdle_cases now s <;> simp [e]

theorem execRxTick_params {s t : State} (hx : execRxTick s = .next t) : t.params = s.params := by
  obtain ⟨-, e⟩ | ⟨-, -, e⟩ | ⟨b, -, -, -, e⟩ | ⟨b, -, -, -, e⟩ := execRxTick_withByte s <;>
    rw [e] at hx <;> cases hx <;> simp

/-- A state that meets the invariant is in one of the first three receive states, which the cursor alone
tells apart (`10_state.md` R31, R35). -/
theorem rxState_of_safe {s : State} (h : s.Safe) :
    ∃ a : RxState, s.rxState = some a ∧ a ≠ .complete ∧ (a = .empty ↔ s.cursor = 0) ∧
      (a = .accumulating ↔ 0 < s.cursor ∧ s.cursor < s.params.hdr) ∧
      (a = .awaitingPayloadAndCrc ↔ s.params.hdr ≤ s.cursor) := by
  have hpos := two_le_hdr s.params
  by_cases h0 : s.cursor = 0
  · refine ⟨.empty, rxState_of_cursor_zero h0, ?_⟩
    simp only [ne_eq, reduceCtorEq, not_false_eq_true, true_and, false_iff, true_iff]
    omega
  · by_cases hh : s.cursor < s.params.hdr
    · refine ⟨.accumulating, by simp [State.rxState, h0, hh], ?_⟩
      simp only [ne_eq, reduceCtorEq, not_false_eq_true, true_and, false_iff, true_iff]
      omega
    · have hT := h.cursorShort.resolve_left hh
      refine ⟨.awaitingPayloadAndCrc, by simp [State.rxState, h0, hh, hT], ?_⟩
      simp only [ne_eq, reduceCtorEq, not_false_eq_true, true_and, false_iff, true_iff]
      omega

/-- Settles O39: the cursor tells the receive states apart, and `execRxTick_cursor` says what an `RX.TICK`
does to it. -/
theorem receiveStateTransitions : Obligations.ReceiveStateTransitions := by
  intro s t h hx byte timeout
  have hbyte : byte ↔ s.TakesByte := Iff.rfl
  have htimeout : timeout ↔ s.RunsOut := Iff.rfl
  have hhdr := two_le_hdr s.params
  have hT := hdr_lt_frameTotal s
  have hmove := execRxTick_cursor h hx
  obtain ⟨a, ea, hac, haEmpty, haAcc, haAwait⟩ := rxState_of_safe h
  obtain ⟨c, ec, hcc, hcEmpty, hcAcc, hcAwait⟩ := rxState_of_safe (exec_safe h hx)
  rw [execRxTick_params hx] at hcAcc hcAwait
  refine ⟨a, c, ea, ec, hac, hcc, fun ha => ?empty, fun ha => ?accumulating, fun ha => ?awaiting⟩
  case empty =>
    have h0 := haEmpty.mp ha
    rw [hcAcc, Ne, hcAwait, hbyte]
    grind
  case accumulating =>
    have hbelow := haAcc.mp ha
    rw [hcAwait, hcEmpty, hbyte, htimeout]
    grind
  case awaiting =>
    have habove := haAwait.mp ha
    rw [hcEmpty, Ne, hcAcc, hbyte, htimeout]
    grind

end Sys2Proof.Machine
end

section
/-! What the operations of `10_state.md` R41 leave alone. -/

namespace Sys2Proof

/-- The operations without an event: `CRC16`, `SER.t`, `DES.t` and `CFG.*` (`10_state.md` R41). -/
def Instr.EmitsNothing (i : Instr) : Prop :=
  (∃ n bytes, i = .crc16 n bytes) ∨ (∃ ty v, i = Instr.ser ty v) ∨ (∃ ty bs, i = Instr.des ty bs) ∨
    i = .cfgEnable ∨ i = .cfgDisable

/-- The operations without a result: `TX.*`, `SIG.*` and `CFG.*` (`10_state.md` R41). -/
def Instr.ReturnsNothing (i : Instr) : Prop :=
  (∃ id n bytes, i = .txRaw id n bytes) ∨ (∃ ty id v, i = Instr.tx ty id v) ∨
    (∃ id, i = .sigUnknownId id) ∨ i = .sigAck ∨ i = .sigNack ∨ i = .cfgEnable ∨ i = .cfgDisable

namespace Machine

theorem exec_events_of_emitsNothing {i : Instr} {s t : State} (hi : i.EmitsNothing)
    (hx : exec i s = .next t) : t.events = s.events := by
  obtain ⟨n, bytes, rfl⟩ | ⟨ty, v, rfl⟩ | ⟨ty, bs, rfl⟩ | rfl | rfl := hi
  · obtain ⟨-, e⟩ | ⟨-, e⟩ := execCrc16_cases n bytes s <;> rw [exec_crc16, e] at hx <;> cases hx
    rfl
  · rw [exec_ser] at hx
    cases hx
    rfl
  · obtain ⟨-, e⟩ | ⟨-, e⟩ := deserialize_cases ty bs s <;> rw [exec_des, e] at hx <;> cases hx
    rfl
  · cases hx
    rfl
  · cases hx
    rfl

theorem exec_results_of_returnsNothing {i : Instr} {s t : State} (hi : i.ReturnsNothing)
    (hx : exec i s = .next t) : t.results = s.results := by
  obtain ⟨id, n, bytes, rfl⟩ | ⟨ty, id, v, rfl⟩ | ⟨id, rfl⟩ | rfl | rfl | rfl | rfl := hi
  · obtain ⟨-, -, e⟩ | ⟨-, -, e⟩ | ⟨-, e⟩ := execTxRaw_cases id n bytes s <;>
      rw [exec_txRaw, e] at hx <;> cases hx
    exact txRaw_results ..
  · obtain ⟨-, e⟩ | ⟨-, e⟩ := transmit_cases ty id v s <;> rw [exec_tx, e] at hx <;> cases hx
    exact txRaw_results ..
  · obtain ⟨-, e⟩ | ⟨-, e⟩ := execSigUnknownId_cases id s <;> rw [exec_sigUnknownId, e] at hx <;> cases hx
    exact signal_results ..
  · cases hx
    exact signal_results ..
  · cases hx
    exact signal_results ..
  · cases hx
    rfl
  · cases hx
    rfl

/-- Settles O42: the frame is `exec_frame`; the two silent groups are read off operation by operation. -/
theorem accessTable : Obligations.AccessTable := by
  intro i s t hi hx
  have hevents := fun h => exec_events_of_emitsNothing (i := i) h hx
  have hresults := fun h => exec_results_of_returnsNothing (i := i) h hx
  obtain ⟨b, es, rs, -, -, rfl⟩ := exec_frame hi hx
  exact ⟨rfl, fun _ => rfl, rfl, rfl, rfl, rfl, rfl, rfl, rfl, rfl, rfl, rfl, rfl, rfl, hevents, hresults⟩

end Machine

end Sys2Proof
end

section
/-! What no step reads. A state is laid over with another buffer and with earlier records; every operation does
the same there and lays its next state over in the same way. Both noninterference statements follow: with no
earlier records for the stale bytes of `rxbuf`, with the same buffer for the records. -/

namespace Sys2Proof.Machine

/-- `s` with the buffer contents `m`, and with `es` and `rs` emitted and given before its own records. -/
def State.over (m : Memory) (es : List Event) (rs : List Result) (s : State) : State :=
  { s with rxbuf := m, events := es ++ s.events, results := rs ++ s.results }

/-- The outcome with `f` applied to the next state, if there is one. -/
def mapNext (f : State → State) : Out → Out
  | .next s => .next (f s)
  | .fault r => .fault r
  | .refused r => .refused r

@[simp] theorem mapNext_next (f : State → State) (s : State) : mapNext f (.next s) = .next (f s) := rfl
@[simp] theorem mapNext_fault (f : State → State) (r : Fault) : mapNext f (.fault r) = .fault r := rfl
@[simp] theorem mapNext_refused (f : State → State) (r : Refusal) : mapNext f (.refused r) = .refused r := rfl

theorem mapNext_eq_next {f : State → State} {o : Out} {t : State} (h : mapNext f o = .next t) :
    ∃ u, o = .next u ∧ t = f u := by
  cases o with
  | next u => cases h; exact ⟨u, rfl, rfl⟩
  | fault r => cases h
  | refused r => cases h

section
variable (m : Memory) (es : List Event) (rs : List Result) (s : State)

theorem giveResult_over (r : Result) : (s.over m es rs).giveResult r = (s.giveResult r).over m es rs := by
  simp [State.giveResult, State.over]

theorem emit_over (e : Event) : (s.over m es rs).emit e = (s.emit e).over m es rs := by
  simp [State.emit, State.over]

theorem txRaw_over (id : Ident) (q : List Byte) (n : Nat) :
    txRaw id q n (s.over m es rs) = (txRaw id q n s).over m es rs := by
  rw [txRaw_eq, txRaw_eq, emit_over, apply_ite (State.over m es rs)]
  rfl

theorem signal_over (sig : Ident) (q : List Byte) :
    signal sig q (s.over m es rs) = (signal sig q s).over m es rs := by
  unfold signal
  rw [txRaw_over, apply_ite (State.over m es rs)]
  rfl

/-- Handling an error reads neither the buffer nor the records; only an overrun writes the buffer. -/
theorem raise_over {e : ErrorClass} (he : ∀ b, e ≠ .bufferOverrun b) :
    raise e (s.over m es rs) = (raise e s).over m es rs := by
  cases e with
  | checksumMismatch => exact signal_over m es rs { s with cursor := 0 } _ _
  | frameTimeout => exact signal_over m es rs { s with cursor := 0 } _ _
  | lengthMismatch id => exact signal_over m es rs s _ _
  | bufferOverrun b => exact absurd rfl (he b)
  | unknownIdentifier id => exact signal_over m es rs s _ _

theorem serialize_over (t : ValType) (v : BitVec t.bits) :
    serialize t v (s.over m es rs) = mapNext (State.over m es rs) (serialize t v s) :=
  congrArg Host.Outcome.next (giveResult_over m es rs s _)

theorem execCrc16_over (n : Word16) (bytes : List Byte) :
    execCrc16 n bytes (s.over m es rs) = mapNext (State.over m es rs) (execCrc16 n bytes s) := by
  unfold execCrc16
  rw [giveResult_over, apply_ite (mapNext (State.over m es rs))]
  rfl

theorem deserialize_over (t : ValType) (bs : List Byte) :
    deserialize t bs (s.over m es rs) = mapNext (State.over m es rs) (deserialize t bs s) := by
  unfold deserialize
  rw [giveResult_over, apply_ite (mapNext (State.over m es rs))]
  rfl

theorem execTxRaw_over (id : Ident) (n : Word16) (bytes : List Byte) :
    execTxRaw id n bytes (s.over m es rs) = mapNext (State.over m es rs) (execTxRaw id n bytes s) := by
  unfold execTxRaw
  rw [txRaw_over, apply_ite (mapNext (State.over m es rs)), apply_ite (mapNext (State.over m es rs))]
  rfl

theorem transmit_over (t : ValType) (id : Ident) (v : BitVec t.bits) :
    transmit t id v (s.over m es rs) = mapNext (State.over m es rs) (transmit t id v s) := by
  unfold transmit
  rw [txRaw_over, apply_ite (mapNext (State.over m es rs))]
  rfl

theorem execSigUnknownId_over (id : Ident) :
    execSigUnknownId id (s.over m es rs) = mapNext (State.over m es rs) (execSigUnknownId id s) := by
  unfold execSigUnknownId
  rw [raise_over m es rs s (by simp), apply_ite (mapNext (State.over m es rs))]
  rfl

theorem recv_over (t : ValType) : recv t (s.over m es rs) = mapNext (State.over m es rs) (recv t s) := by
  unfold recv
  rw [raise_over m es rs s (by simp), giveResult_over, giveResult_over,
    apply_ite (mapNext (State.over m es rs)), apply_ite (mapNext (State.over m es rs))]
  rfl

/-- An operation other than `RX.TICK` reads neither the buffer nor the records. -/
theorem exec_over {i : Instr} (hi : i ≠ .rxTick) :
    exec i (s.over m es rs) = mapNext (State.over m es rs) (exec i s) := by
  induction i using Instr.groupCases with
  | rxTick => exact absurd rfl hi
  | cfgEnable => rfl
  | cfgDisable => rfl
  | crc16 n bytes => exact execCrc16_over m es rs s n bytes
  | txRaw id n bytes => exact execTxRaw_over m es rs s id n bytes
  | sigUnknownId id => exact execSigUnknownId_over m es rs s id
  | sigAck => exact congrArg Host.Outcome.next (signal_over m es rs s _ _)
  | sigNack => exact congrArg Host.Outcome.next (signal_over m es rs s _ _)
  | ser t v => simpa only [exec_ser] using serialize_over m es rs s t v
  | des t bs => simpa only [exec_des] using deserialize_over m es rs s t bs
  | tx t id v => simpa only [exec_tx] using transmit_over m es rs s t id v
  | recv t => simpa only [exec_recv] using recv_over m es rs s t

theorem checkIdle_over (now : Nat) :
    checkIdle now (s.over m es rs) = (checkIdle now s).over m es rs := by
  unfold checkIdle
  rw [raise_over m es rs s (by simp), apply_ite (State.over m es rs)]
  rfl

theorem withByte_over (b : Byte) :
    (s.over m es rs).withByte b = (s.withByte b).over (Memory.write m s.storeIndex b) es rs := rfl

end

/-- Two buffers that read alike below `n`. -/
def AgreeBelow (n : Nat) (m m' : Memory) : Prop := ∀ a, a < n → Memory.read m a = Memory.read m' a

theorem AgreeBelow.mono {n k : Nat} {m m' : Memory} (h : AgreeBelow n m m') (hk : k ≤ n) :
    AgreeBelow k m m' := fun a ha => h a (ha.trans_le hk)

/-- The same byte written at the same place: the buffers agree there too. -/
theorem AgreeBelow.write {n k i : Nat} {m m' : Memory} (h : AgreeBelow n m m') (hm : Memory.wf m = true)
    (hm' : Memory.wf m' = true) (hk : ∀ a, a < k → a < n ∨ a = i) (b : Byte) :
    AgreeBelow k (Memory.write m i b) (Memory.write m' i b) := by
  intro a ha
  rw [Memory.read_write hm, Memory.read_write hm']
  split
  · rfl
  · exact h a ((hk a ha).resolve_right (Ne.symm ‹_›))

/-- A span below `n` reads alike. -/
theorem memRead_over {m : Memory} (es : List Event) (rs : List Result) {s : State} {i n k : Nat}
    (h : AgreeBelow k m s.rxbuf) (hk : i + n ≤ k) : (s.over m es rs).memRead i n = s.memRead i n :=
  List.map_congr_left fun j hj => h (i + j) (by have := List.mem_range.mp hj; omega)

theorem declaredLen_over {m : Memory} (es : List Event) (rs : List Result) {s : State} {k : Nat}
    (h : AgreeBelow k m s.rxbuf) (hk : s.params.hdr ≤ k) :
    (s.over m es rs).declaredLen = s.declaredLen :=
  congrArg (fun b : Byte => clamp s.params b.toNat) (h _ ((idBytes_lt_hdr _).trans_le hk))

theorem frameTotal_over {m : Memory} (es : List Event) (rs : List Result) {s : State} {k : Nat}
    (h : AgreeBelow k m s.rxbuf) (hk : s.params.hdr ≤ k) :
    (s.over m es rs).frameTotal = s.frameTotal :=
  congrArg (fun n => s.params.hdr + n + 2) (declaredLen_over es rs h hk)

section
variable {m : Memory} (es : List Event) (rs : List Result) {s : State}
  (h : AgreeBelow s.frameTotal m s.rxbuf)
include h

theorem declaredLen_over_frame : (s.over m es rs).declaredLen = s.declaredLen :=
  declaredLen_over es rs h (hdr_lt_frameTotal s).le

theorem calcCrc_over : (s.over m es rs).calcCrc = s.calcCrc := by
  have hread := memRead_over es rs (i := 0) (n := s.params.hdr + s.declaredLen) h
    (by simp only [State.frameTotal]; omega)
  rw [State.calcCrc, declaredLen_over_frame es rs h]
  exact congrArg crc16 hread

theorem recvCrc_over : (s.over m es rs).recvCrc = s.recvCrc := by
  have hread := memRead_over es rs (i := s.params.hdr + s.declaredLen) (n := 2) h le_rfl
  rw [State.recvCrc, declaredLen_over_frame es rs h]
  exact congrArg (fun q => BitVec.ofNat 16 (dec s.params.byteOrder q)) hread

theorem recvId_over : (s.over m es rs).recvId = s.recvId :=
  congrArg (decId s.params) (memRead_over es rs (i := 0) (n := s.params.idBytes) h
    (by have := idBytes_lt_hdr s.params; simp only [State.frameTotal]; omega))

theorem recvPayload_over : (s.over m es rs).recvPayload = s.recvPayload := by
  have hread := memRead_over es rs (i := s.params.hdr) (n := s.declaredLen) h
    (by simp only [State.frameTotal]; omega)
  rw [State.recvPayload, declaredLen_over_frame es rs h]
  exact hread

/-- A delivery reads the frame only, which ends at `frameTotal`. -/
theorem deliver_over : deliver (s.over m es rs) = (deliver s).over m es rs := by
  simp only [deliver, State.latchFrame, recvId_over es rs h, recvPayload_over es rs h,
    recvCrc_over es rs h, declaredLen_over_frame es rs h]
  simp [State.emit, State.over]

end

/-- The completion test reads the buffer below the cursor only. -/
theorem checkFrame_over {m : Memory} (es : List Event) (rs : List Result) {s : State}
    (h : AgreeBelow s.cursor m s.rxbuf) :
    checkFrame (s.over m es rs) = (checkFrame s).over m es rs := by
  by_cases hd : s.params.hdr ≤ s.cursor ∧ s.cursor = s.frameTotal
  · have hframe : AgreeBelow s.frameTotal m s.rxbuf := hd.2 ▸ h
    have hd' : (s.over m es rs).params.hdr ≤ (s.over m es rs).cursor ∧
        (s.over m es rs).cursor = (s.over m es rs).frameTotal := by
      rw [frameTotal_over es rs h hd.1]
      exact hd
    rw [checkFrame, checkFrame, if_pos hd, if_pos hd', calcCrc_over es rs hframe,
      recvCrc_over es rs hframe, deliver_over es rs hframe, raise_over m es rs s (by simp),
      apply_ite (State.over m es rs)]
  · have hd' : ¬ ((s.over m es rs).params.hdr ≤ (s.over m es rs).cursor ∧
        (s.over m es rs).cursor = (s.over m es rs).frameTotal) := by
      rintro ⟨hh, hT⟩
      rw [frameTotal_over es rs h hh] at hT
      exact hd ⟨hh, hT⟩
    rw [checkFrame, checkFrame, if_neg hd, if_neg hd']

@[simp] theorem checkIdle_rxbuf (now : Nat) (s : State) : (checkIdle now s).rxbuf = s.rxbuf := by
  obtain ⟨-, e⟩ | ⟨-, e⟩ := checkIdle_cases now s <;> simp [e, raise_rxbuf]

@[simp] theorem checkFrame_rxbuf (s : State) : (checkFrame s).rxbuf = s.rxbuf := by
  obtain ⟨-, e⟩ | ⟨-, -, e⟩ | ⟨-, -, e⟩ := checkFrame_cases s <;> simp [e, raise_rxbuf]

/-- The idle check keeps the cursor or empties the buffer. -/
theorem checkIdle_cursor_le (now : Nat) (s : State) : (checkIdle now s).cursor ≤ s.cursor := by
  obtain ⟨-, e⟩ | ⟨-, e⟩ := checkIdle_cases now s <;> simp [e, raise_cursor]

/-- The completion test keeps the cursor or empties the buffer. -/
theorem checkFrame_cursor_le (s : State) : (checkFrame s).cursor ≤ s.cursor := by
  obtain ⟨-, e⟩ | ⟨-, -, e⟩ | ⟨-, -, e⟩ := checkFrame_cases s <;> simp [e, raise_cursor]

/-- The buffer `m` can stand for the one of `s`: they read alike below the cursor, and still do once a byte is
stored. -/
def StandsFor (m : Memory) (s : State) : Prop :=
  AgreeBelow s.cursor m s.rxbuf ∧
    ∀ b, AgreeBelow (s.withByte b).cursor (Memory.write m s.storeIndex b) (s.withByte b).rxbuf

theorem standsFor_self (s : State) : StandsFor s.rxbuf s := ⟨fun _ _ => rfl, fun _ _ _ => rfl⟩

theorem standsFor_of_wf {m : Memory} {s : State} (hm : Memory.wf m = true)
    (hs : Memory.wf s.rxbuf = true) (h : AgreeBelow s.cursor m s.rxbuf) : StandsFor m s := by
  refine ⟨h, fun b => h.write hm hs (fun a ha => ?_) b⟩
  simp only [State.withByte] at ha
  simp only [State.storeIndex]
  split at ha <;> split <;> omega

/-- `f` does on `s`, laid over with the buffer `m` and any earlier records, what it does on `s`, and leaves a
buffer that reads like the one of its next state below the cursor. -/
def Transports (f : State → Out) (m : Memory) (s : State) : Prop :=
  ∃ m', (∀ es rs, f (s.over m es rs) = mapNext (State.over m' es rs) (f s)) ∧
    ∀ t, f s = .next t → AgreeBelow t.cursor m' t.rxbuf

theorem execRxTick_transports {m : Memory} {s : State} (h : StandsFor m s) :
    Transports execRxTick m s := by
  obtain ⟨hold, hstored⟩ := h
  obtain ⟨he, e⟩ | ⟨he, hr, e⟩ | ⟨b, he, hr, hc, e⟩ | ⟨b, he, hr, hc, e⟩ := execRxTick_withByte s
  · refine ⟨m, fun es rs => ?_, fun t ht => ?_⟩
    · rw [e]
      exact execRxTick_disabled he
    · rw [e] at ht
      cases ht
      exact hold
  · refine ⟨m, fun es rs => ?_, fun t ht => ?_⟩
    · rw [e, mapNext_next, ← checkIdle_over]
      exact execRxTick_noByte he hr
    · rw [e] at ht
      cases ht
      rw [checkIdle_rxbuf]
      exact hold.mono (checkIdle_cursor_le s.now s.takeInputs)
  · refine ⟨Memory.write m s.storeIndex b, fun es rs => ?_, fun t ht => ?_⟩
    · rw [e, mapNext_next, ← checkFrame_over es rs (hstored b), ← withByte_over]
      exact execRxTick_byte he hr hc
    · rw [e] at ht
      cases ht
      rw [checkFrame_rxbuf]
      exact (hstored b).mono (checkFrame_cursor_le _)
  · refine ⟨m, fun es rs => ?_, fun t ht => ?_⟩
    · rw [e]
      exact execRxTick_fault he hr hc
    · rw [e] at ht
      cases ht

theorem exec_transports {m : Memory} {s : State} (h : StandsFor m s) (i : Instr) :
    Transports (exec i) m s := by
  by_cases hi : i = .rxTick
  · subst hi
    exact execRxTick_transports h
  · refine ⟨m, fun es rs => exec_over m es rs s hi, fun t ht => ?_⟩
    obtain ⟨b, es, rs, -, -, rfl⟩ := exec_frame hi ht
    exact h.1

/-- A step reads neither the records nor the buffer at and above the cursor. -/
theorem step_transports {m : Memory} {s : State} (h : StandsFor m s) : Transports step m s := by
  obtain ⟨hp, e⟩ | ⟨rest, hp, e⟩ | ⟨w, rest, i, hp, hd, e⟩ | ⟨w, rest, err, hp, hd, e⟩ := step_cases s
  · refine ⟨m, fun es rs => ?_, fun t ht => ?_⟩
    · rw [e]
      exact step_idle hp
    · rw [e] at ht
      cases ht
      exact h.1
  · refine ⟨m, fun es rs => ?_, fun t ht => ?_⟩
    · rw [e]
      exact step_reset hp
    · rw [e] at ht
      cases ht
      exact h.1.mono (Nat.zero_le _)
  · obtain ⟨m', hover, hagree⟩ := exec_transports (s := { s with port := rest }) h i
    refine ⟨m', fun es rs => ?_, e ▸ hagree⟩
    rw [e, ← hover]
    exact stepRunsDecodedOperation _ w rest i hp hd
  · refine ⟨m, fun es rs => ?_, fun t ht => ?_⟩
    · rw [e]
      exact step_undecodable hp hd
    · rw [e] at ht
      cases ht

/-- The states that differ from `s` at most at and above the cursor are `s` with another buffer. -/
theorem sameBelowCursor_iff {s t : State} :
    SameBelowCursor s t ↔ ∃ m, t = s.over m [] [] ∧ AgreeBelow s.cursor m s.rxbuf := by
  constructor
  · rintro ⟨hrest, hread⟩
    exact ⟨t.rxbuf, (congrArg (fun u : State => { u with rxbuf := t.rxbuf }) hrest).symm,
      fun a ha => (hread a ha).symm⟩
  · rintro ⟨m, rfl, hread⟩
    exact ⟨rfl, fun a ha => (hread a ha).symm⟩

/-- Settles O40: the other state is this one with another buffer, and a step reads it below the cursor only. -/
theorem staleBufferUnobservable : Obligations.StaleBufferUnobservable := by
  intro s t hs ht h
  obtain ⟨m, rfl, hread⟩ := sameBelowCursor_iff.mp h
  obtain ⟨m', hover, hagree⟩ := step_transports (standsFor_of_wf (m := m) ht hs hread)
  rw [hover]
  cases hx : step s with
  | next u => exact sameBelowCursor_iff.mpr ⟨m', rfl, hagree u hx⟩
  | fault f => rfl
  | refused r => rfl

/-- Handling an error adds at most one event. -/
theorem raise_appends (e : ErrorClass) (s : State) :
    ∃ es, es.length ≤ 1 ∧ (raise e s).events = s.events ++ es := by
  obtain h | ⟨c, r, -, -, h⟩ := raise_events e s
  · exact ⟨[], Nat.zero_le _, by rw [h, List.append_nil]⟩
  · exact ⟨[_], le_rfl, h⟩

theorem checkIdle_appends (now : Nat) (s : State) :
    ∃ es, es.length ≤ 1 ∧ (checkIdle now s).events = s.events ++ es := by
  obtain ⟨-, e⟩ | ⟨-, e⟩ := checkIdle_cases now s <;> rw [e]
  · exact ⟨[], Nat.zero_le _, (List.append_nil _).symm⟩
  · exact raise_appends _ s

theorem checkFrame_appends (s : State) :
    ∃ es, es.length ≤ 1 ∧ (checkFrame s).events = s.events ++ es := by
  obtain ⟨-, e⟩ | ⟨-, -, e⟩ | ⟨-, -, e⟩ := checkFrame_cases s <;> rw [e]
  · exact ⟨[], Nat.zero_le _, (List.append_nil _).symm⟩
  · exact ⟨[_], le_rfl, deliver_events s⟩
  · exact raise_appends _ s

@[simp] theorem checkIdle_results (now : Nat) (s : State) : (checkIdle now s).results = s.results := by
  obtain ⟨-, e⟩ | ⟨-, e⟩ := checkIdle_cases now s <;> simp [e]

@[simp] theorem checkFrame_results (s : State) : (checkFrame s).results = s.results := by
  obtain ⟨-, e⟩ | ⟨-, -, e⟩ | ⟨-, -, e⟩ := checkFrame_cases s <;> simp [e]

/-- `RX.TICK` adds at most one event and returns nothing (`42_rx_assembler.md` R148). -/
theorem execRxTick_appends {s t : State} (hx : execRxTick s = .next t) :
    (∃ es, es.length ≤ 1 ∧ t.events = s.events ++ es) ∧ t.results = s.results := by
  obtain ⟨-, e⟩ | ⟨-, -, e⟩ | ⟨b, -, -, -, e⟩ | ⟨b, -, -, -, e⟩ := execRxTick_withByte s <;>
    rw [e] at hx <;> cases hx
  · exact ⟨⟨[], Nat.zero_le _, (List.append_nil _).symm⟩, rfl⟩
  · exact ⟨checkIdle_appends s.now s.takeInputs, checkIdle_results s.now s.takeInputs⟩
  · exact ⟨checkFrame_appends (s.withByte b), checkFrame_results (s.withByte b)⟩

/-- An operation adds at most one event and at most one result. -/
theorem exec_appends {i : Instr} {s t : State} (hx : exec i s = .next t) :
    ∃ es rs, es.length ≤ 1 ∧ rs.length ≤ 1 ∧ t.events = s.events ++ es ∧ t.results = s.results ++ rs := by
  by_cases hi : i = .rxTick
  · subst hi
    obtain ⟨⟨es, hes, he⟩, hr⟩ := execRxTick_appends hx
    exact ⟨es, [], hes, Nat.zero_le _, he, by rw [hr, List.append_nil]⟩
  · obtain ⟨b, es, rs, hes, hrs, rfl⟩ := exec_frame hi hx
    exact ⟨es, rs, hes, hrs, rfl, rfl⟩

/-- A step adds at most one event and at most one result. -/
theorem step_appends {s t : State} (hx : step s = .next t) :
    ∃ es rs, es.length ≤ 1 ∧ rs.length ≤ 1 ∧ t.events = s.events ++ es ∧ t.results = s.results ++ rs := by
  obtain ⟨-, e⟩ | ⟨rest, -, e⟩ | ⟨w, rest, i, -, -, e⟩ | ⟨w, rest, err, -, -, e⟩ := step_cases s <;>
    rw [e] at hx
  · cases hx
    exact ⟨[], [], Nat.zero_le _, Nat.zero_le _, (List.append_nil _).symm, (List.append_nil _).symm⟩
  · cases hx
    exact ⟨[], [], Nat.zero_le _, Nat.zero_le _, (List.append_nil _).symm, (List.append_nil _).symm⟩
  · exact exec_appends (s := { s with port := rest }) hx
  · cases hx

/-- `s` before anything was emitted or given. -/
def State.unrecorded (s : State) : State := { s with events := [], results := [] }

/-- Any records are earlier records laid over the empty ones. -/
theorem over_unrecorded (s : State) (es : List Event) (rs : List Result) :
    s.unrecorded.over s.rxbuf es rs = { s with events := es, results := rs } := by
  simp [State.over, State.unrecorded]

/-- Settles O41: what a step adds is what it adds to empty records, whatever records it is laid over. -/
theorem outputsAreWriteOnly : Obligations.OutputsAreWriteOnly := by
  intro s t hx
  obtain ⟨m, hover, -⟩ := step_transports (standsFor_self s.unrecorded)
  have hlaid : ∀ es rs, step { s with events := es, results := rs } =
      mapNext (State.over m es rs) (step s.unrecorded) :=
    fun es rs => over_unrecorded s es rs ▸ hover es rs
  obtain ⟨u, hu, rfl⟩ := mapNext_eq_next ((hlaid s.events s.results).symm.trans hx)
  obtain ⟨es, rs, hes, hrs, he, hr⟩ := step_appends hu
  rw [show s.unrecorded.events = [] from rfl, List.nil_append] at he
  rw [show s.unrecorded.results = [] from rfl, List.nil_append] at hr
  refine ⟨u.events, u.results, he ▸ hes, hr ▸ hrs, rfl, rfl, fun es₀ rs₀ => ?_⟩
  rw [hlaid, hu]
  rfl

end Sys2Proof.Machine
end

section
/-! The byte-order functions of `20_memory.md` R50: index formulas, sums, reversal and the second round trip. -/

namespace Sys2Proof

@[simp] theorem ofNat_and_byteMask (v : Nat) : BitVec.ofNat 8 (v &&& 0xFF) = BitVec.ofNat 8 v :=
  BitVec.eq_of_toNat_eq (by
    rw [BitVec.toNat_ofNat, BitVec.toNat_ofNat, Nat.and_two_pow_sub_one_eq_mod v 8, Nat.mod_mod])

theorem beBytes_eq_map (n v : Nat) :
    beBytes n v = (List.range n).map (fun i => BitVec.ofNat 8 (v >>> (8 * (n - 1 - i)))) := by
  induction n with
  | zero => rfl
  | succ n ih =>
    have hshift (i : Nat) : n - 1 - i = n - (i + 1) := by omega
    simp only [beBytes, ih, List.range_succ_eq_map, List.map_cons, List.map_map, Function.comp_def,
      Nat.succ_eq_add_one, hshift, Nat.add_sub_cancel, Nat.sub_zero]

theorem leBytes_eq_map (n v : Nat) :
    leBytes n v = (List.range n).map (fun i => BitVec.ofNat 8 (v >>> (8 * i))) := by
  induction n generalizing v with
  | zero => rfl
  | succ n ih =>
    have hshift (i : Nat) : 8 + 8 * i = 8 * (i + 1) := by omega
    simp only [leBytes, ih, List.range_succ_eq_map, List.map_cons, List.map_map, Function.comp_def,
      Nat.succ_eq_add_one, ← Nat.shiftRight_add, hshift, Nat.mul_zero, Nat.shiftRight_zero]

theorem leBytes_eq_reverse (n v : Nat) : leBytes n v = (beBytes n v).reverse :=
  List.ext_getElem (by simp) fun i hi _ => by
    have hi : i < n := by simpa using hi
    have hindex : n - 1 - (n - 1 - i) = i := by omega
    simp [leBytes_eq_map, beBytes_eq_map, hindex]

theorem beNat_eq_sum (bs : List Byte) :
    beNat bs = ∑ i ∈ Finset.range bs.length, (bs.getD i 0).toNat * 2 ^ (8 * (bs.length - 1 - i)) := by
  induction bs with
  | nil => rfl
  | cons b bs ih =>
    have hexp (i : Nat) : bs.length - 1 - i = bs.length - (i + 1) := by omega
    rw [beNat, ih, List.length_cons, Finset.sum_range_succ', add_comm]
    simp only [List.getD_cons_succ, List.getD_cons_zero, hexp, Nat.add_sub_cancel, Nat.sub_zero]

theorem leNat_eq_sum (bs : List Byte) :
    leNat bs = ∑ i ∈ Finset.range bs.length, (bs.getD i 0).toNat * 2 ^ (8 * i) := by
  induction bs with
  | nil => rfl
  | cons b bs ih =>
    have hterm (i : Nat) : 2 ^ 8 * ((bs.getD i 0).toNat * 2 ^ (8 * i)) =
        (bs.getD i 0).toNat * 2 ^ (8 * (i + 1)) := by ring
    rw [leNat, ih, List.length_cons, Finset.sum_range_succ', Finset.mul_sum, add_comm]
    simp only [List.getD_cons_succ, List.getD_cons_zero, hterm, Nat.mul_zero, pow_zero, Nat.mul_one]

theorem leNat_append (bs cs : List Byte) :
    leNat (bs ++ cs) = leNat bs + 2 ^ (8 * bs.length) * leNat cs := by
  induction bs with
  | nil => simp [leNat]
  | cons b bs ih =>
    rw [List.cons_append, leNat, leNat, ih, List.length_cons]
    ring

/-- Reading big-endian is reading the reversed bytes little-endian. -/
theorem leNat_reverse (bs : List Byte) : leNat bs.reverse = beNat bs := by
  induction bs with
  | nil => rfl
  | cons b bs ih =>
    rw [List.reverse_cons, leNat_append, ih, List.length_reverse, beNat, leNat, leNat]
    ring

theorem leBytes_leNat (bs : List Byte) : leBytes bs.length (leNat bs) = bs := by
  induction bs with
  | nil => rfl
  | cons b bs ih =>
    have hb : b.toNat < 2 ^ 8 := b.isLt
    have hlow : BitVec.ofNat 8 (b.toNat + 2 ^ 8 * leNat bs) = b :=
      BitVec.eq_of_toNat_eq (by rw [BitVec.toNat_ofNat, Nat.add_mul_mod_self_left, Nat.mod_eq_of_lt hb])
    have hhigh : (b.toNat + 2 ^ 8 * leNat bs) >>> 8 = leNat bs := by
      rw [Nat.shiftRight_eq_div_pow]; omega
    rw [List.length_cons, leBytes, leNat, hlow, hhigh, ih]

theorem beBytes_beNat (bs : List Byte) : beBytes bs.length (beNat bs) = bs := by
  have h := leBytes_leNat bs.reverse
  rwa [leNat_reverse, List.length_reverse, leBytes_eq_reverse, List.reverse_inj] at h

/-- `enc_N(dec_N(B)) = B` in either byte order (`20_memory.md` R50). -/
theorem enc_dec (o : ByteOrder) (bs : List Byte) : enc o bs.length (dec o bs) = bs := by
  cases o
  · exact beBytes_beNat bs
  · exact leBytes_leNat bs

namespace Machine

/-- The model's `enc_N` is the index formula of `20_memory.md` R50. -/
theorem enc_eq_wireBytes (o : ByteOrder) (n v : Nat) : enc o n v = wireBytes o n v := by
  cases o
  · simp only [enc, wireBytes, beBytes_eq_map, ofNat_and_byteMask]
  · simp only [enc, wireBytes, leBytes_eq_map, ofNat_and_byteMask]

/-- The model's `dec_N` is the sum of `20_memory.md` R50. -/
theorem dec_eq_wireNat (o : ByteOrder) (bs : List Byte) : dec o bs = wireNat o bs := by
  cases o
  · exact beNat_eq_sum bs
  · exact leNat_eq_sum bs

theorem enc_one (o : ByteOrder) (b : Byte) : enc o 1 b.toNat = [b] := by
  have hself : dec o [b] = b.toNat := by cases o <;> simp [dec, beNat, leNat]
  exact hself ▸ enc_dec o [b]

/-- Settles O13: the recursive functions meet the formulas of R50, and the little-endian round trip carries
over to big-endian by reversal. -/
theorem byteOrderFunctions : Obligations.ByteOrderFunctions := by
  refine ⟨fun n v _ hv => ⟨enc_eq_wireBytes .be n v, enc_eq_wireBytes .le n v, leBytes_eq_reverse n v,
      rfl, rfl, fun o => ?_⟩,
    fun bs _ => ⟨dec_eq_wireNat .be bs, dec_eq_wireNat .le bs, fun o => enc_dec o bs⟩,
    enc_one, by decide, by decide, by decide⟩
  rw [dec_enc, Nat.mod_eq_of_lt hv]

end Machine

end Sys2Proof
end

section
/-! The operation word (`30_encoding.md` R80, R84, R85): its fields, its formats, its codes, and the round trips
between words and operations. -/

namespace Sys2Proof

/-- A field reads back the value written into it, if the value fits. -/
theorem ofNat_beNat_beBytes {w n : Nat} {v : BitVec w} (hv : v.toNat < 2 ^ (8 * n)) :
    BitVec.ofNat w (beNat (beBytes n v.toNat)) = v := by
  rw [beNat_beBytes, Nat.mod_eq_of_lt hv, BitVec.ofNat_toNat, BitVec.setWidth_eq]

/-- No bit of a field is lost in a value at least as wide. -/
theorem toNat_ofNat_beNat {w n : Nat} (hn : 8 * n ≤ w) {bs : List Byte} (hlen : bs.length = n) :
    (BitVec.ofNat w (beNat bs)).toNat = beNat bs := by
  have hfit : 2 ^ (8 * bs.length) ≤ 2 ^ w := Nat.pow_le_pow_right two_pos (hlen ▸ hn)
  rw [BitVec.toNat_ofNat, Nat.mod_eq_of_lt ((beNat_lt bs).trans_le hfit)]

/-- Writing what was read from a field gives the field back. -/
theorem beBytes_ofNat_beNat {w n : Nat} (hn : 8 * n ≤ w) {bs : List Byte} (hlen : bs.length = n) :
    beBytes n (BitVec.ofNat w (beNat bs)).toNat = bs := by
  rw [toNat_ofNat_beNat hn hlen, ← hlen, beBytes_beNat]

/-- The first `n` bytes as a field, then the rest. -/
theorem beBytes_take_append_drop {w n : Nat} (hn : 8 * n ≤ w) {bs : List Byte} (hlen : n ≤ bs.length) :
    beBytes n (BitVec.ofNat w (beNat (bs.take n))).toNat ++ bs.drop n = bs := by
  rw [beBytes_ofNat_beNat hn (List.length_take_of_le hlen), List.take_append_drop]

theorem idFits_iff (p : Params) (id : Ident) : p.idFits id = true ↔ id.toNat < 2 ^ (8 * p.idBytes) := by
  rw [Params.idFits, decide_eq_true_iff, Params.idMax, Nat.le_sub_one_iff_lt (Nat.two_pow_pos _)]

theorem idBits_le (p : Params) : 8 * p.idBytes ≤ 16 := by
  have := idBytes_cases p
  omega

/-- What `ID_W` bytes of a word read as is at most `ID_MAX` (`30_encoding.md` R76). -/
theorem idFits_ofNat_beNat (p : Params) {bs : List Byte} (hlen : bs.length = p.idBytes) :
    p.idFits (BitVec.ofNat 16 (beNat bs)) = true := by
  rw [idFits_iff, toNat_ofNat_beNat (idBits_le p) hlen, ← hlen]
  exact beNat_lt bs

/-- The shape of every format's decoder: one check of the operand bytes' number. -/
theorem operandCheck_eq_ok_iff {c : Prop} [Decidable c] {e : DecodeError} {i j : Instr} :
    (if c then Except.ok j else Except.error e) = Except.ok i ↔ c ∧ j = i := by
  split <;> simp [*]

theorem operandCheck_ne_reserved {c : Prop} [Decidable c] {j : Instr} {op op' : Byte} :
    (if c then Except.ok j else Except.error (.operandLength op)) ≠
      Except.error (DecodeError.reservedOpcode op') := by
  split <;> simp

section
variable {p : Params} {op : Byte} {t : ValType} {args : List Byte} {i j : Instr}

theorem decodeN_eq_ok_iff : decodeN op j args = .ok i ↔ args = [] ∧ j = i := by
  rw [decodeN, operandCheck_eq_ok_iff, List.length_eq_zero_iff]

theorem decodeB_eq_ok_iff :
    decodeB op args = .ok i ↔ ∃ n bytes, i = .crc16 n bytes ∧ args = beBytes 2 n.toNat ++ bytes := by
  rw [decodeB, operandCheck_eq_ok_iff]
  constructor
  · rintro ⟨hlen, rfl⟩
    exact ⟨_, _, rfl, (beBytes_take_append_drop le_rfl hlen).symm⟩
  · rintro ⟨n, bytes, rfl, rfl⟩
    rw [List.take_left' (beBytes_length ..), List.drop_left' (beBytes_length ..),
      ofNat_beNat_beBytes n.isLt]
    exact ⟨by simp, rfl⟩

theorem decodeIB_eq_ok_iff :
    decodeIB p op args = .ok i ↔ ∃ id n bytes, p.idFits id = true ∧ i = .txRaw id n bytes ∧
      args = beBytes p.idBytes id.toNat ++ (beBytes 2 n.toNat ++ bytes) := by
  rw [decodeIB, operandCheck_eq_ok_iff]
  constructor
  · rintro ⟨hlen, rfl⟩
    refine ⟨_, _, _, idFits_ofNat_beNat p (List.length_take_of_le (by omega)), rfl, ?_⟩
    rw [← List.drop_drop, beBytes_take_append_drop (by simp) (by rw [List.length_drop]; omega),
      beBytes_take_append_drop (idBits_le p) (by omega)]
  · rintro ⟨id, n, bytes, hid, rfl, rfl⟩
    rw [← List.drop_drop, List.take_left' (beBytes_length ..), List.drop_left' (beBytes_length ..),
      List.take_left' (beBytes_length ..), List.drop_left' (beBytes_length ..),
      ofNat_beNat_beBytes ((idFits_iff p id).mp hid), ofNat_beNat_beBytes n.isLt]
    exact ⟨by simp [← Nat.add_assoc], rfl⟩

theorem decodeI_eq_ok_iff :
    decodeI p op args = .ok i ↔
      ∃ id, p.idFits id = true ∧ i = .sigUnknownId id ∧ args = beBytes p.idBytes id.toNat := by
  rw [decodeI, operandCheck_eq_ok_iff]
  constructor
  · rintro ⟨hlen, rfl⟩
    exact ⟨_, idFits_ofNat_beNat p hlen, rfl, (beBytes_ofNat_beNat (idBits_le p) hlen).symm⟩
  · rintro ⟨id, hid, rfl, rfl⟩
    exact ⟨beBytes_length .., by rw [ofNat_beNat_beBytes ((idFits_iff p id).mp hid)]⟩

theorem value_lt (v : BitVec t.bits) : v.toNat < 2 ^ (8 * t.width) := Machine.bits_eq t ▸ v.isLt

theorem decodeV_eq_ok_iff :
    decodeV op t args = .ok i ↔ ∃ v, i = Instr.ser t v ∧ args = beBytes t.width v.toNat := by
  rw [decodeV, operandCheck_eq_ok_iff]
  constructor
  · rintro ⟨hlen, rfl⟩
    exact ⟨_, rfl, (beBytes_ofNat_beNat (Machine.bits_eq t).ge hlen).symm⟩
  · rintro ⟨v, rfl, rfl⟩
    exact ⟨beBytes_length .., by rw [ofNat_beNat_beBytes (value_lt v)]⟩

theorem decodeF_eq_ok_iff : decodeF op t args = .ok i ↔ args.length = t.width ∧ Instr.des t args = i :=
  operandCheck_eq_ok_iff

theorem decodeIV_eq_ok_iff :
    decodeIV p op t args = .ok i ↔ ∃ id v, p.idFits id = true ∧ i = Instr.tx t id v ∧
      args = beBytes p.idBytes id.toNat ++ beBytes t.width v.toNat := by
  rw [decodeIV, operandCheck_eq_ok_iff]
  constructor
  · rintro ⟨hlen, rfl⟩
    refine ⟨_, _, idFits_ofNat_beNat p (List.length_take_of_le (by omega)), rfl, ?_⟩
    rw [beBytes_ofNat_beNat (Machine.bits_eq t).ge (by rw [List.length_drop]; omega),
      beBytes_take_append_drop (idBits_le p) (by omega)]
  · rintro ⟨id, v, hid, rfl, rfl⟩
    rw [List.take_left' (beBytes_length ..), List.drop_left' (beBytes_length ..),
      ofNat_beNat_beBytes ((idFits_iff p id).mp hid), ofNat_beNat_beBytes (value_lt v)]
    exact ⟨by simp, rfl⟩

end

section
variable (p : Params) (t : ValType) (id : Ident)

@[simp] theorem opcode_crc16 (n : Word16) (bs : List Byte) : opcode (.crc16 n bs) = 0x04 := rfl

@[simp] theorem opcode_txRaw (n : Word16) (bs : List Byte) : opcode (.txRaw id n bs) = 0x05 := rfl

@[simp] theorem opcode_sigUnknownId : opcode (.sigUnknownId id) = 0x06 := rfl

@[simp] theorem opcode_ser (v : BitVec t.bits) :
    opcode (Instr.ser t v) = BitVec.ofNat 8 (0x10 + t.code) := by cases t <;> rfl

@[simp] theorem opcode_des (bs : List Byte) :
    opcode (Instr.des t bs) = BitVec.ofNat 8 (0x20 + t.code) := by cases t <;> rfl

@[simp] theorem opcode_tx (v : BitVec t.bits) :
    opcode (Instr.tx t id v) = BitVec.ofNat 8 (0x30 + t.code) := by cases t <;> rfl

@[simp] theorem opcode_recv : opcode (Instr.recv t) = BitVec.ofNat 8 (0x40 + t.code) := by
  cases t <;> rfl

@[simp] theorem operandBytes_ser (v : BitVec t.bits) :
    operandBytes p (Instr.ser t v) = beBytes t.width v.toNat := by cases t <;> rfl

@[simp] theorem operandBytes_des (bs : List Byte) : operandBytes p (Instr.des t bs) = bs := by
  cases t <;> rfl

@[simp] theorem operandBytes_tx (v : BitVec t.bits) :
    operandBytes p (Instr.tx t id v) = beBytes p.idBytes id.toNat ++ beBytes t.width v.toNat := by
  cases t <;> rfl

@[simp] theorem operandBytes_recv : operandBytes p (Instr.recv t) = [] := by cases t <;> rfl

@[simp] theorem wellFormed_des (bs : List Byte) :
    (Instr.des t bs).wellFormed p = decide (bs.length = t.width) := by cases t <;> rfl

@[simp] theorem wellFormed_tx (v : BitVec t.bits) : (Instr.tx t id v).wellFormed p = p.idFits id := by
  cases t <;> rfl

end

/-! Which format's decoder each operation code selects. -/

section
variable (p : Params) (args : List Byte) (t : ValType) (id : Ident) (n : Word16) (bs : List Byte)

theorem decode_rxTick : decode p (opcode .rxTick :: args) = decodeN (opcode .rxTick) .rxTick args := rfl

theorem decode_cfgEnable :
    decode p (opcode .cfgEnable :: args) = decodeN (opcode .cfgEnable) .cfgEnable args := rfl

theorem decode_cfgDisable :
    decode p (opcode .cfgDisable :: args) = decodeN (opcode .cfgDisable) .cfgDisable args := rfl

theorem decode_crc16 :
    decode p (opcode (.crc16 n bs) :: args) = decodeB (opcode (.crc16 n bs)) args := by
  rw [opcode_crc16]
  rfl

theorem decode_txRaw :
    decode p (opcode (.txRaw id n bs) :: args) = decodeIB p (opcode (.txRaw id n bs)) args := by
  rw [opcode_txRaw]
  rfl

theorem decode_sigUnknownId :
    decode p (opcode (.sigUnknownId id) :: args) = decodeI p (opcode (.sigUnknownId id)) args := by
  rw [opcode_sigUnknownId]
  rfl

theorem decode_sigAck : decode p (opcode .sigAck :: args) = decodeN (opcode .sigAck) .sigAck args := rfl

theorem decode_sigNack :
    decode p (opcode .sigNack :: args) = decodeN (opcode .sigNack) .sigNack args := rfl

theorem decode_ser (v : BitVec t.bits) :
    decode p (opcode (Instr.ser t v) :: args) = decodeV (opcode (Instr.ser t v)) t args := by
  rw [opcode_ser]
  cases t <;> rfl

theorem decode_des :
    decode p (opcode (Instr.des t bs) :: args) = decodeF (opcode (Instr.des t bs)) t args := by
  rw [opcode_des]
  cases t <;> rfl

theorem decode_tx (v : BitVec t.bits) :
    decode p (opcode (Instr.tx t id v) :: args) = decodeIV p (opcode (Instr.tx t id v)) t args := by
  rw [opcode_tx]
  cases t <;> rfl

theorem decode_recv :
    decode p (opcode (Instr.recv t) :: args) = decodeN (opcode (Instr.recv t)) (Instr.recv t) args := by
  cases t <;> rfl

end

/-- Settles O1: each group's decoder, given the operand bytes of its format, returns the operation. -/
theorem decodeEncodeRoundTrip : Obligations.DecodeEncodeRoundTrip := by
  intro p i hwf
  rw [encode]
  induction i using Instr.groupCases with
  | rxTick => rfl
  | cfgEnable => rfl
  | cfgDisable => rfl
  | crc16 n bytes =>
    rw [decode_crc16]
    exact decodeB_eq_ok_iff.mpr ⟨n, bytes, rfl, rfl⟩
  | txRaw id n bytes =>
    rw [decode_txRaw]
    exact decodeIB_eq_ok_iff.mpr ⟨id, n, bytes, (Bool.and_eq_true_iff.mp hwf).1, rfl, rfl⟩
  | sigUnknownId id =>
    rw [decode_sigUnknownId]
    exact decodeI_eq_ok_iff.mpr ⟨id, hwf, rfl, rfl⟩
  | sigAck => rfl
  | sigNack => rfl
  | ser t v =>
    rw [decode_ser, operandBytes_ser]
    exact decodeV_eq_ok_iff.mpr ⟨v, rfl, rfl⟩
  | des t bs =>
    rw [wellFormed_des, decide_eq_true_iff] at hwf
    rw [decode_des, operandBytes_des]
    exact decodeF_eq_ok_iff.mpr ⟨hwf, rfl⟩
  | tx t id v =>
    rw [wellFormed_tx] at hwf
    rw [decode_tx, operandBytes_tx]
    exact decodeIV_eq_ok_iff.mpr ⟨id, v, hwf, rfl, rfl⟩
  | recv t =>
    rw [decode_recv, operandBytes_recv]
    exact decodeN_eq_ok_iff.mpr ⟨rfl, rfl⟩

/-- A word with the code of an operation that decodes is the encoding of what it decodes to. -/
theorem encode_of_decode_opcode {p : Params} {i j : Instr} {args : List Byte}
    (h : decode p (opcode j :: args) = .ok i) : encode p i = opcode j :: args := by
  induction j using Instr.groupCases with
  | rxTick =>
    obtain ⟨rfl, rfl⟩ := decodeN_eq_ok_iff.mp (decode_rxTick p args ▸ h)
    rfl
  | cfgEnable =>
    obtain ⟨rfl, rfl⟩ := decodeN_eq_ok_iff.mp (decode_cfgEnable p args ▸ h)
    rfl
  | cfgDisable =>
    obtain ⟨rfl, rfl⟩ := decodeN_eq_ok_iff.mp (decode_cfgDisable p args ▸ h)
    rfl
  | crc16 n bytes =>
    rw [decode_crc16, decodeB_eq_ok_iff] at h
    obtain ⟨n', bytes', rfl, rfl⟩ := h
    rfl
  | txRaw id n bytes =>
    rw [decode_txRaw, decodeIB_eq_ok_iff] at h
    obtain ⟨id', n', bytes', -, rfl, rfl⟩ := h
    rfl
  | sigUnknownId id =>
    rw [decode_sigUnknownId, decodeI_eq_ok_iff] at h
    obtain ⟨id', -, rfl, rfl⟩ := h
    rfl
  | sigAck =>
    obtain ⟨rfl, rfl⟩ := decodeN_eq_ok_iff.mp (decode_sigAck p args ▸ h)
    rfl
  | sigNack =>
    obtain ⟨rfl, rfl⟩ := decodeN_eq_ok_iff.mp (decode_sigNack p args ▸ h)
    rfl
  | ser t v =>
    rw [decode_ser, decodeV_eq_ok_iff] at h
    obtain ⟨v', rfl, rfl⟩ := h
    simp [encode]
  | des t bs =>
    rw [decode_des, decodeF_eq_ok_iff] at h
    obtain ⟨-, rfl⟩ := h
    simp [encode]
  | tx t id v =>
    rw [decode_tx, decodeIV_eq_ok_iff] at h
    obtain ⟨id', v', -, rfl, rfl⟩ := h
    simp [encode]
  | recv t =>
    rw [decode_recv, decodeN_eq_ok_iff] at h
    obtain ⟨rfl, rfl⟩ := h
    simp [encode]

/-- An assigned code answers with an operation or with wrong operand bytes. -/
theorem decode_opcode_ne_reserved (p : Params) (j : Instr) (args : List Byte) (op : Byte) :
    decode p (opcode j :: args) ≠ .error (.reservedOpcode op) := by
  induction j using Instr.groupCases with
  | rxTick => exact (decode_rxTick p args).trans_ne operandCheck_ne_reserved
  | cfgEnable => exact (decode_cfgEnable p args).trans_ne operandCheck_ne_reserved
  | cfgDisable => exact (decode_cfgDisable p args).trans_ne operandCheck_ne_reserved
  | crc16 n bytes => exact (decode_crc16 p args n bytes).trans_ne operandCheck_ne_reserved
  | txRaw id n bytes => exact (decode_txRaw p args id n bytes).trans_ne operandCheck_ne_reserved
  | sigUnknownId id => exact (decode_sigUnknownId p args id).trans_ne operandCheck_ne_reserved
  | sigAck => exact (decode_sigAck p args).trans_ne operandCheck_ne_reserved
  | sigNack => exact (decode_sigNack p args).trans_ne operandCheck_ne_reserved
  | ser t v => exact (decode_ser p args t v).trans_ne operandCheck_ne_reserved
  | des t bs => exact (decode_des p args t bs).trans_ne operandCheck_ne_reserved
  | tx t id v => exact (decode_tx p args t id v).trans_ne operandCheck_ne_reserved
  | recv t => exact (decode_recv p args t).trans_ne operandCheck_ne_reserved

/-- The reserved codes of `30_encoding.md` R85, as ranges. -/
theorem reservedCode_iff (op : Byte) :
    reservedCode op = true ↔
      op.toNat = 0x00 ∨ (0x09 ≤ op.toNat ∧ op.toNat ≤ 0x0F) ∨ (0x1A ≤ op.toNat ∧ op.toNat ≤ 0x1F) ∨
        (0x2A ≤ op.toNat ∧ op.toNat ≤ 0x2F) ∨ (0x3A ≤ op.toNat ∧ op.toNat ≤ 0x3F) ∨
        (0x4A ≤ op.toNat ∧ op.toNat ≤ 0x4F) ∨ (0x50 ≤ op.toNat ∧ op.toNat ≤ 0xFF) := by
  have hop : op.toNat < 256 := op.isLt
  simp only [reservedCode, Bool.or_eq_true, Bool.and_eq_true, beq_iff_eq, decide_eq_true_iff]
  omega

theorem ValType.ofCode_code (t : ValType) : ValType.ofCode t.code = some t := by cases t <;> rfl

/-- The codes 0x0 to 0x9 are the type codes (`30_encoding.md` R79). -/
theorem ValType.exists_code {c : Nat} (hc : c ≤ 9) : ∃ t : ValType, t.code = c := by
  interval_cases c
  exacts [⟨.u8, rfl⟩, ⟨.s8, rfl⟩, ⟨.u16, rfl⟩, ⟨.s16, rfl⟩, ⟨.u32, rfl⟩, ⟨.s32, rfl⟩, ⟨.u64, rfl⟩,
    ⟨.s64, rfl⟩, ⟨.f32, rfl⟩, ⟨.f64, rfl⟩]

theorem ValType.ofCode_eq_none {c : Nat} (hc : 9 < c) : ValType.ofCode c = none := by
  unfold ValType.ofCode
  split
  any_goals omega
  rfl

/-- Every code that is not reserved belongs to an operation (`30_encoding.md` R84, R85). -/
theorem exists_opcode {op : Byte} (h : reservedCode op = false) : ∃ i, opcode i = op := by
  have hop : BitVec.ofNat 8 op.toNat = op := by rw [BitVec.ofNat_toNat, BitVec.setWidth_eq]
  rw [← Bool.not_eq_true, reservedCode_iff] at h
  by_cases hlow : op.toNat < 16
  · have hlo : 1 ≤ op.toNat := by omega
    have hhi : op.toNat ≤ 8 := by omega
    rw [← hop]
    interval_cases op.toNat
    exacts [⟨.rxTick, rfl⟩, ⟨.cfgEnable, rfl⟩, ⟨.cfgDisable, rfl⟩, ⟨.crc16 0 [], rfl⟩,
      ⟨.txRaw 0 0 [], rfl⟩, ⟨.sigUnknownId 0, rfl⟩, ⟨.sigAck, rfl⟩, ⟨.sigNack, rfl⟩]
  · obtain ⟨t, ht⟩ := ValType.exists_code (c := op.toNat % 16) (by omega)
    have hgroup : op.toNat = 0x10 + t.code ∨ op.toNat = 0x20 + t.code ∨ op.toNat = 0x30 + t.code ∨
        op.toNat = 0x40 + t.code := by omega
    rw [← hop]
    obtain e | e | e | e := hgroup <;> rw [e]
    exacts [⟨_, opcode_ser t 0⟩, ⟨_, opcode_des t []⟩, ⟨_, opcode_tx t 0 0⟩, ⟨_, opcode_recv t⟩]

/-- A reserved code is answered as reserved, whatever operand bytes follow (`30_encoding.md` R85). -/
theorem decode_reserved (p : Params) {op : Byte} (args : List Byte) (h : reservedCode op = true) :
    decode p (op :: args) = .error (.reservedOpcode op) := by
  rw [reservedCode_iff] at h
  rw [decode]
  split
  · unfold decodeGroup0
    split
    any_goals omega
    rfl
  · by_cases hc : op.toNat % 16 ≤ 9
    · obtain ⟨t, ht⟩ := ValType.exists_code hc
      rw [← ht, ValType.ofCode_code]
      dsimp only
      unfold decodeTyped
      split
      any_goals omega
      rfl
    · rw [ValType.ofCode_eq_none (by omega)]

theorem decode_eq_reserved_iff (p : Params) (op : Byte) (args : List Byte) :
    decode p (op :: args) = .error (.reservedOpcode op) ↔ reservedCode op = true := by
  refine ⟨fun h => ?_, decode_reserved p args⟩
  by_contra hr
  obtain ⟨i, rfl⟩ := exists_opcode (Bool.eq_false_iff.mpr hr)
  exact decode_opcode_ne_reserved p i args _ h

/-- Settles O2: the code of a word that decodes is an operation's, and each group's decoder reads every byte. -/
theorem wordHasOneMeaning : Obligations.WordHasOneMeaning := by
  intro p word i h
  cases word with
  | nil => cases h
  | cons op args =>
    cases hr : reservedCode op with
    | true =>
      rw [decode_reserved p args hr] at h
      cases h
    | false =>
      obtain ⟨j, rfl⟩ := exists_opcode hr
      exact encode_of_decode_opcode h

/-- Settles O56: a word that decodes begins with the code of its operation, and no two operations share a
code. -/
theorem operationCodeMap : Obligations.OperationCodeMap := by
  intro p word i h
  have hhead : word.head? = some (opcode i) := by
    rw [← wordHasOneMeaning p word i h]
    rfl
  rw [hhead]
  clear hhead h
  -- An operation has its own code and none of the other 47.
  cases i <;> simp [opcode]

/-- Settles O5: the decoder evaluated on each word. -/
theorem writtenWordsDecode : Obligations.WrittenWordsDecode := by
  unfold Obligations.WrittenWordsDecode
  and_intros <;> rfl

namespace Machine

/-- Only the decoder refuses a word as undecodable: no operation does. -/
theorem exec_ne_undecodable (i : Instr) (s : State) (e : DecodeError) :
    exec i s ≠ .refused (.undecodable e) := by
  induction i using Instr.groupCases with
  | rxTick =>
    obtain ⟨-, h⟩ | ⟨-, -, h⟩ | ⟨b, -, -, -, h⟩ | ⟨b, -, -, -, h⟩ := execRxTick_withByte s <;> simp [h]
  | cfgEnable => simp
  | cfgDisable => simp
  | crc16 n bytes => obtain ⟨-, h⟩ | ⟨-, h⟩ := execCrc16_cases n bytes s <;> simp [h]
  | txRaw id n bytes =>
    obtain ⟨-, -, h⟩ | ⟨-, -, h⟩ | ⟨-, h⟩ := execTxRaw_cases id n bytes s <;> simp [h]
  | sigUnknownId id => obtain ⟨-, h⟩ | ⟨-, h⟩ := execSigUnknownId_cases id s <;> simp [h]
  | sigAck => simp
  | sigNack => simp
  | ser t v => simp [serialize]
  | des t bs => obtain ⟨-, h⟩ | ⟨-, h⟩ := deserialize_cases t bs s <;> simp [h]
  | tx t id v => obtain ⟨-, h⟩ | ⟨-, h⟩ := transmit_cases t id v s <;> simp [h]
  | recv t => obtain ⟨-, h⟩ | ⟨-, -, h⟩ | ⟨-, -, h⟩ := recv_cases t s <;> simp [h]

/-- Settles O3: the decoder answers "reserved" exactly for the codes of R85, and the step passes it on. -/
theorem reservedCodesRefused : Obligations.ReservedCodesRefused := by
  intro s op operands rest hp
  rw [← reservedCode_iff, decode_eq_reserved_iff]
  refine ⟨Iff.rfl, fun hr => step_undecodable hp (decode_reserved _ _ hr), fun hs => ?_⟩
  rw [← decode_eq_reserved_iff s.params op operands]
  cases hd : decode s.params (op :: operands) with
  | ok i =>
    rw [step_operation hp hd] at hs
    exact absurd hs (exec_ne_undecodable i _ _)
  | error e =>
    rw [step_undecodable hp hd] at hs
    cases hs
    rfl

end Machine
end Sys2Proof
end

section
/-! The pseudo-operations of `30_encoding.md` R87, and the operations on an identifier above `ID_MAX`. -/

namespace Sys2Proof.Machine

/-- `TX.RAW` on an identifier up to `ID_MAX` and enough bytes (`43_tx_builder.md` R172). -/
theorem exec_txRaw_of_fits {s : State} {id : Ident} (hid : s.params.idFits id = true) {n : Nat}
    {bytes : List Byte} (hn : n < 2 ^ 16) (hlen : n ≤ bytes.length) :
    exec (.txRaw id (BitVec.ofNat 16 n) bytes) s = .next (txRaw id bytes n s) := by
  rw [exec_txRaw, execTxRaw, if_pos hid, BitVec.toNat_ofNat, Nat.mod_eq_of_lt hn,
    if_neg (((clamp_le_self _ n).trans hlen).not_gt)]

/-- A signal is the gated `TX.RAW` of its whole payload (`44_signals.md` R190). -/
theorem next_signal_eq {s : State} {sig : Ident} (hsig : s.params.idFits sig = true) {q : List Byte}
    (hq : q.length < 2 ^ 16) :
    Host.Outcome.next (signal sig q s) =
      if s.cfg.errorReplyEnabled = true then exec (.txRaw sig (BitVec.ofNat 16 q.length) q) s
      else .next s := by
  rw [exec_txRaw_of_fits hsig hq le_rfl, ← apply_ite Host.Outcome.next]
  rfl

/-- The signal identifiers of legal parameters are at most `ID_MAX` (`00_scope.md` R8). -/
theorem idFits_of_mem_signals {p : Params} (hp : p.legal = true) {sig : Ident} (hsig : sig ∈ p.signals) :
    p.idFits sig = true := by
  simp only [Params.legal, Bool.and_eq_true, List.all_eq_true] at hp
  obtain ⟨⟨-, hrange⟩, -⟩ := hp
  exact (hrange sig hsig).2

/-- Settles O22: `TX.t` checks its identifier as `TX.RAW` does and has bytes enough, and a signal is the gated
`TX.RAW` of its payload. -/
theorem pseudoOperationsExpand : Obligations.PseudoOperationsExpand := by
  refine ⟨fun s t id v => ?tx, fun s hp => ?signals⟩
  case tx =>
    have hw : t.width < 2 ^ 16 := by cases t <;> decide
    rw [exec_tx]
    obtain ⟨hid, e⟩ | ⟨hid, e⟩ := transmit_cases t id v s <;> rw [e]
    · rw [exec_txRaw_of_fits hid hw (ser_length ..).ge]
    · simp [execTxRaw, hid]
  case signals =>
    have hfits {sig : Ident} (hsig : sig ∈ s.params.signals) := idFits_of_mem_signals hp hsig
    refine ⟨next_signal_eq (q := []) (hfits (by simp [Params.signals])) (by decide),
      next_signal_eq (q := []) (hfits (by simp [Params.signals])) (by decide), fun id hid => ?_⟩
    have hlen : (encId s.params id).length < 2 ^ 16 := by
      have := idBits_le s.params
      rw [encId_length]
      omega
    have hsignal := next_signal_eq (hfits (sig := s.params.sigUnknownId) (by simp [Params.signals])) hlen
    rw [encId_length] at hsignal
    have hfit : s.params.idFits id = true := decide_eq_true hid
    rw [← hsignal, exec_sigUnknownId, execSigUnknownId, if_pos hfit]
    rfl

/-- Settles O24: `TX.t` by type, and the two operations that check the identifier themselves. -/
theorem wideIdentifierRefused : Obligations.WideIdentifierRefused := by
  intro s id h
  have hid : ¬ s.params.idFits id = true := by simpa [Params.idFits] using h
  have htx (t : ValType) (v : BitVec t.bits) :
      exec (Instr.tx t id v) s = .refused .identifierTooWide := by
    rw [exec_tx, transmit, if_neg hid]
  exact ⟨fun n bytes => if_neg hid, if_neg hid, htx .u8, htx .s8, htx .u16, htx .s16, htx .u32,
    htx .s32, htx .u64, htx .s64, htx .f32, htx .f64⟩

end Sys2Proof.Machine
end

section
/-! The CRC Engine of `40_crc.md` by rounds and steps: linear over XOR, one to one, and byte by byte. -/

namespace Sys2Proof.Machine

/-- A round shifts, and the bit shifted out selects the generator (`40_crc.md` R101). -/
theorem crcRound_eq (r : Word16) : crcRound r = (r <<< 1) ^^^ (if r.msb then 0x1021 else 0) := by
  unfold crcRound
  split <;> simp

theorem crcRound_of_msb_false {r : Word16} (h : r.msb = false) : crcRound r = r <<< 1 := by
  simp [crcRound_eq, h]

theorem crcRound_xor (a b : Word16) : crcRound (a ^^^ b) = crcRound a ^^^ crcRound b := by
  have hselect : (if (a ^^^ b).msb then 0x1021 else 0 : Word16) =
      (if a.msb then 0x1021 else 0) ^^^ (if b.msb then 0x1021 else 0) := by
    rw [BitVec.msb_xor]
    cases a.msb <;> cases b.msb <;> rfl
  rw [crcRound_eq, crcRound_eq, crcRound_eq, hselect, BitVec.shiftLeft_xor_distrib]
  ac_rfl

/-- The generator's constant term records the bit a round shifts out. -/
theorem crcRound_getLsbD_zero (r : Word16) : (crcRound r).getLsbD 0 = r.msb := by
  rw [crcRound_eq]
  cases r.msb <;> simp

/-- No round loses a bit: the one shifted out comes back in bit 0. -/
theorem crcRound_injective : Function.Injective crcRound := by
  intro a b h
  have hmsb : a.msb = b.msb := by rw [← crcRound_getLsbD_zero, h, crcRound_getLsbD_zero]
  have hshift : a <<< 1 = b <<< 1 := by simpa [crcRound_eq, hmsb] using h
  refine BitVec.eq_of_getLsbD_eq fun i hi => ?_
  obtain rfl | hlow : i = 15 ∨ i + 1 < 16 := by omega
  · exact hmsb
  · simpa [hlow, ← BitVec.getLsbD_eq_getElem] using congrArg (BitVec.getLsbD · (i + 1)) hshift

theorem crcRound_iterate_xor (n : Nat) (a b : Word16) :
    crcRound^[n] (a ^^^ b) = crcRound^[n] a ^^^ crcRound^[n] b := by
  induction n generalizing a b with
  | zero => rfl
  | succ n ih => simp only [Function.iterate_succ_apply, crcRound_xor, ih]

/-- Up to eight rounds only shift a byte in bits 7:0: none of its bits reaches bit 15 before. -/
theorem crcRound_iterate_byte (b : Byte) {n : Nat} (hn : n ≤ 8) :
    crcRound^[n] (b.setWidth 16) = b.setWidth 16 <<< n := by
  induction n with
  | zero => simp
  | succ n ih =>
    have hmsb : (b.setWidth 16 <<< n).msb = false := by
      rw [BitVec.msb_eq_getLsbD_last, BitVec.getLsbD_shiftLeft, BitVec.getLsbD_setWidth,
        BitVec.getLsbD_of_ge b _ (by omega)]
      simp
    rw [Function.iterate_succ_apply', ih (by omega), crcRound_of_msb_false hmsb, ← BitVec.shiftLeft_add]

theorem crcStep_eq_iterate (r : Word16) (b : Byte) :
    crcStep r b = crcRound^[8] (r ^^^ (b.setWidth 16 <<< 8)) := rfl

@[simp] theorem crcStep_zero_zero : crcStep 0#16 0#8 = 0#16 := rfl

theorem crcStep_xor (r r' : Word16) (b b' : Byte) :
    crcStep (r ^^^ r') (b ^^^ b') = crcStep r b ^^^ crcStep r' b' := by
  rw [crcStep_eq_iterate, crcStep_eq_iterate, crcStep_eq_iterate, ← crcRound_iterate_xor,
    BitVec.setWidth_xor, BitVec.shiftLeft_xor_distrib]
  congr 1
  ac_rfl

theorem crcStep_left_injective (b : Byte) : Function.Injective (crcStep · b) := fun _ _ h =>
  BitVec.xor_left_inj _ |>.mp (crcRound_injective.iterate 8 h)

theorem crcStep_right_injective (r : Word16) : Function.Injective (crcStep r) := by
  intro b b' h
  have hshift : b.setWidth 16 <<< 8 = b'.setWidth 16 <<< 8 :=
    BitVec.xor_right_inj _ |>.mp (crcRound_injective.iterate 8 h)
  refine BitVec.eq_of_getLsbD_eq fun i hi => ?_
  have hlow : i + 8 < 16 := by omega
  simpa [hlow, show i < 16 by omega] using congrArg (BitVec.getLsbD · (i + 8)) hshift

/-- A remainder is its high byte in bits 15:8 and its low byte in bits 7:0. -/
theorem word_eq_bytes (r : Word16) :
    r = (r.setWidth 8).setWidth 16 ^^^ ((r >>> 8).setWidth 8).setWidth 16 <<< 8 := by
  refine BitVec.eq_of_getLsbD_eq fun i hi => ?_
  obtain hlow | hhigh : i < 8 ∨ 8 ≤ i := by omega
  · simp [hlow, hi]
  · have hindex : 8 + (i - 8) = i := by omega
    simp [hi, hhigh.not_gt, hindex, show i - 8 < 8 by omega, show i - 8 < 16 by omega]

/-- The step by bytes: the low byte moves up, and the high byte and the new one together go through the
eight rounds (`40_crc.md` R104). -/
theorem crcStep_eq_table_step (r : Word16) (b : Byte) :
    crcStep r b = (r <<< 8) ^^^ crcStep 0#16 ((r >>> 8).setWidth 8 ^^^ b) := by
  have hlow : (r.setWidth 8).setWidth 16 <<< 8 = r <<< 8 := by
    refine BitVec.eq_of_getLsbD_eq fun i hi => ?_
    simp [show i - 8 < 8 by omega, show i - 8 < 16 by omega]
  calc crcStep r b
      = crcStep ((r.setWidth 8).setWidth 16 ^^^ ((r >>> 8).setWidth 8).setWidth 16 <<< 8) b := by
        rw [← word_eq_bytes]
    _ = crcRound^[8] ((r.setWidth 8).setWidth 16 ^^^
          (0#16 ^^^ (((r >>> 8).setWidth 8 ^^^ b).setWidth 16 <<< 8))) := by
        rw [crcStep_eq_iterate, BitVec.setWidth_xor, BitVec.shiftLeft_xor_distrib, BitVec.zero_xor,
          BitVec.xor_assoc]
    _ = (r <<< 8) ^^^ crcStep 0#16 ((r >>> 8).setWidth 8 ^^^ b) := by
        rw [crcRound_iterate_xor, crcRound_iterate_byte _ le_rfl, hlow, crcStep_eq_iterate]

/-- The step on the remainder's own high byte clears it. -/
theorem crcStep_highByte (r : Word16) : crcStep r ((r >>> 8).setWidth 8) = r <<< 8 := by
  rw [crcStep_eq_table_step, BitVec.xor_self]
  simp

end Sys2Proof.Machine
end

section
/-! The table of `40_crc.md` R104, the properties of R105 and the operation `CRC16`. -/

namespace Sys2Proof.Machine

/-- Entry `i` of the table, as `40_crc.md` R104 defines it. -/
def crcEntry (i : Nat) : Word16 := crcStep 0 (BitVec.ofNat 8 i)

theorem crcTable0_eq : crcTable0 = (List.range' 0 64).map crcEntry := by decide

theorem crcTable1_eq : crcTable1 = (List.range' 64 64).map crcEntry := by decide

theorem crcTable2_eq : crcTable2 = (List.range' 128 64).map crcEntry := by decide

theorem crcTable3_eq : crcTable3 = (List.range' 192 64).map crcEntry := by decide

theorem crcTable_eq : crcTable = (List.range' 0 256).map crcEntry := by
  rw [crcTable, crcTable0_eq, crcTable1_eq, crcTable2_eq, crcTable3_eq, ← List.map_append,
    ← List.map_append, ← List.map_append, List.range'_append_1, List.range'_append_1,
    List.range'_append_1]

theorem crcTable_length : crcTable.length = 256 := by
  rw [crcTable_eq, List.length_map, List.length_range']

theorem crcTable_getD (b : Byte) : crcTable.getD b.toNat 0 = crcStep 0 b := by
  rw [List.getD_eq_getElem _ _ (crcTable_length.symm ▸ b.isLt)]
  simp [crcTable_eq, crcEntry]

/-- Settles O6: the printed entries block by block, and the split of a remainder into its two bytes. -/
theorem crcTableForm : Obligations.CrcTableForm :=
  ⟨crcTable_length, crcTable_getD, fun r b => by rw [crcTable_getD]; exact crcStep_eq_table_step r b⟩

/-- `40_crc.md` R105 (b). -/
theorem crc16_append (a b : List Byte) : crc16 (a ++ b) = b.foldl crcStep (crc16 a) := List.foldl_append

theorem foldl_crcStep_zipWith_xor (r r' : Word16) {a b : List Byte} (h : a.length = b.length) :
    (List.zipWith (· ^^^ ·) a b).foldl crcStep (r ^^^ r') = a.foldl crcStep r ^^^ b.foldl crcStep r' := by
  induction a generalizing b r r' with
  | nil =>
    obtain rfl := List.length_eq_zero_iff.mp h.symm
    rfl
  | cons x a ih =>
    cases b with
    | nil => cases h
    | cons y b =>
      rw [List.zipWith_cons_cons, List.foldl_cons, crcStep_xor]
      exact ih _ _ (Nat.succ.inj h)

/-- Settles O7: the fold is linear in the remainder and the bytes, and 0 ^^^ 0 is where it starts. -/
theorem crcLinear : Obligations.CrcLinear := fun _ _ h => foldl_crcStep_zipWith_xor 0 0 h

theorem wireBytes_be_two (r : Word16) : wireBytes .be 2 r.toNat = [(r >>> 8).setWidth 8, r.setWidth 8] := by
  rw [← enc_eq_wireBytes]
  simp [enc, beBytes, ← BitVec.toNat_ushiftRight]

/-- Settles O8: each byte of the checksum clears a half of the remainder. -/
theorem crcResidueZero : Obligations.CrcResidueZero := by
  intro b
  have hlow : (((crc16 b <<< 8) >>> 8).setWidth 8 : Byte) = (crc16 b).setWidth 8 :=
    BitVec.eq_of_getLsbD_eq fun i hi => by
      simp [hi, show 8 + i < 16 by omega, -BitVec.getLsbD_eq_getElem]
  rw [wireBytes_be_two, crc16_append, List.foldl_cons, List.foldl_cons, List.foldl_nil, crcStep_highByte,
    ← hlow, crcStep_highByte, ← BitVec.shiftLeft_add]
  exact BitVec.shiftLeft_eq_zero le_rfl

theorem foldl_crcStep_injective (bs : List Byte) : Function.Injective (bs.foldl crcStep ·) := by
  induction bs with
  | nil => exact Function.injective_id
  | cons b bs ih => exact ih.comp (crcStep_left_injective b)

/-- Settles O9: the step at the changed byte separates the remainders, and no later step joins them. -/
theorem crcDetectsSingleBitErrors : Obligations.CrcDetectsSingleBitErrors := by
  intro before after b k hk h
  rw [crc16_append, crc16_append] at h
  have hbyte : b = b ^^^ (1#8 <<< k) := crcStep_right_injective _ (foldl_crcStep_injective after h)
  have hbit := congrArg (BitVec.getLsbD · k) hbyte
  simp [hk] at hbit

theorem crc16_zero_cons (b : List Byte) : crc16 (0x00 :: b) = crc16 b :=
  congrArg (b.foldl crcStep ·) crcStep_zero_zero

theorem crc16_replicate_zero_append (k : Nat) (b : List Byte) :
    crc16 (List.replicate k 0x00 ++ b) = crc16 b := by
  induction k with
  | zero => rfl
  | succ k ih => rw [List.replicate_succ, List.cons_append, crc16_zero_cons, ih]

/-- Settles O10: a zero byte in front leaves the remainder 0 as it is. -/
theorem crcIgnoresLeadingZeros : Obligations.CrcIgnoresLeadingZeros := fun k b =>
  ⟨crc16_replicate_zero_append k b, by simpa [crc16] using crc16_replicate_zero_append k []⟩

/-- Settles O12: the two outcomes of the operation exclude each other. -/
theorem crc16Completes : Obligations.Crc16Completes := by
  intro s n bytes
  obtain ⟨hn, e⟩ | ⟨hn, e⟩ := execCrc16_cases n bytes s <;> rw [exec_crc16, e]
  · exact ⟨fun _ => rfl, fun h => absurd hn h.not_ge⟩
  · exact ⟨fun h => absurd hn h.not_gt, fun _ => rfl⟩

end Sys2Proof.Machine
end

section
/-! The CRC Engine as polynomial division over GF(2) (`40_crc.md` R102). -/

namespace Sys2Proof.Machine

open Polynomial

theorem bitsPoly_zero (w : Nat) : bitsPoly (0#w) = 0 := by
  simp [bitsPoly]

/-- XOR is addition over GF(2). -/
theorem bitsPoly_xor {w : Nat} (a b : BitVec w) : bitsPoly (a ^^^ b) = bitsPoly a + bitsPoly b := by
  rw [bitsPoly, bitsPoly, bitsPoly, ← Finset.sum_add_distrib]
  refine Finset.sum_congr rfl fun i _ => ?_
  rw [BitVec.getLsbD_xor]
  cases a.getLsbD i <;> cases b.getLsbD i <;> simp [CharTwo.add_self_eq_zero]

/-- A shift by one is multiplication by `x`, but for the bit shifted out. -/
theorem bitsPoly_shiftLeft_one {w : Nat} (v : BitVec (w + 1)) :
    bitsPoly (v <<< 1) + (if v.msb then X ^ (w + 1) else 0) = X * bitsPoly v := by
  have hlow : bitsPoly (v <<< 1) = ∑ i ∈ Finset.range w, X * (if v.getLsbD i then X ^ i else 0) := by
    rw [bitsPoly, Finset.sum_range_succ']
    have hbit0 : (v <<< 1).getLsbD 0 = false := by simp
    rw [hbit0, if_neg Bool.false_ne_true, add_zero]
    refine Finset.sum_congr rfl fun i hi => ?_
    simp [Finset.mem_range.mp hi, pow_succ', -BitVec.getLsbD_eq_getElem]
  rw [hlow, bitsPoly, Finset.sum_range_succ, mul_add, Finset.mul_sum, BitVec.msb_eq_getLsbD_last,
    Nat.add_sub_cancel, mul_ite, mul_zero, pow_succ']

theorem bitsPoly_setWidth_shiftLeft (b : Byte) : bitsPoly (b.setWidth 16 <<< 8) = X ^ 8 * bitsPoly b := by
  rw [bitsPoly, bitsPoly, Finset.sum_range_add _ 8 8, Finset.mul_sum, Finset.sum_eq_zero, zero_add]
  · refine Finset.sum_congr rfl fun i hi => ?_
    have hi := Finset.mem_range.mp hi
    simp [show 8 + i < 16 by omega, pow_add]
  · intro i hi
    simp [Finset.mem_range.mp hi]

theorem degree_bitsPoly_lt {w : Nat} (v : BitVec w) : (bitsPoly v).degree < w := by
  rw [← mem_degreeLT]
  refine Submodule.sum_mem _ fun i hi => ?_
  split
  · exact mem_degreeLT.mpr ((degree_X_pow_le i).trans_lt (by exact_mod_cast Finset.mem_range.mp hi))
  · exact Submodule.zero_mem _

/-- The constant of `40_crc.md` R101 is the generator without its highest term. -/
theorem crcPoly_eq : crcPoly = X ^ 16 + bitsPoly (0x1021 : Word16) := by
  have hbits : bitsPoly (0x1021 : Word16) = 1 + X ^ 5 + X ^ 12 := by
    simp [bitsPoly, Finset.sum_range_succ]
  rw [crcPoly, hbits]
  ring

theorem degree_crcPoly : crcPoly.degree = 16 := by
  unfold crcPoly
  compute_degree!

theorem crcPoly_monic : crcPoly.Monic := by
  unfold crcPoly
  monicity!

/-- A round multiplies by `x` and subtracts the generator when the bit shifted out is set. -/
theorem bitsPoly_crcRound (r : Word16) :
    bitsPoly (crcRound r) = X * bitsPoly r + (if r.msb then crcPoly else 0) := by
  rw [crcRound_eq, bitsPoly_xor, ← bitsPoly_shiftLeft_one]
  split
  · have htwice : (X ^ 16 + X ^ 16 : (ZMod 2)[X]) = 0 := CharTwo.add_self_eq_zero _
    rw [crcPoly_eq]
    linear_combination -htwice
  · simp [bitsPoly_zero]

/-- The class of a polynomial modulo the generator. -/
noncomputable abbrev crcClass : (ZMod 2)[X] →+* AdjoinRoot crcPoly := AdjoinRoot.mk crcPoly

theorem crcClass_crcRound (r : Word16) : crcClass (bitsPoly (crcRound r)) = crcClass (X * bitsPoly r) := by
  rw [bitsPoly_crcRound, map_add, apply_ite crcClass, map_zero, AdjoinRoot.mk_self, ite_self, add_zero]

theorem crcClass_crcRound_iterate (n : Nat) (r : Word16) :
    crcClass (bitsPoly (crcRound^[n] r)) = crcClass (X ^ n * bitsPoly r) := by
  induction n generalizing r with
  | zero => simp
  | succ n ih =>
    rw [Function.iterate_succ_apply, ih, map_mul, crcClass_crcRound, ← map_mul, pow_succ, mul_assoc]

/-- A step appends the byte's eight coefficients below the remainder's and multiplies by `x^16` as before. -/
theorem crcClass_crcStep (r : Word16) (b : Byte) :
    crcClass (bitsPoly (crcStep r b)) = crcClass (bitsPoly r * X ^ 8 + bitsPoly b * X ^ 16) := by
  rw [crcStep_eq_iterate, crcClass_crcRound_iterate, bitsPoly_xor, bitsPoly_setWidth_shiftLeft]
  exact congrArg crcClass (by ring)

theorem crcClass_foldl_crcStep (r : Word16) (bs : List Byte) :
    crcClass (bitsPoly (bs.foldl crcStep r)) =
      crcClass (bitsPoly r * X ^ (8 * bs.length) + messagePoly bs * X ^ 16) := by
  induction bs generalizing r with
  | nil => simp [messagePoly]
  | cons b bs ih =>
    rw [List.foldl_cons, ih, map_add, map_mul, crcClass_crcStep, ← map_mul, ← map_add, messagePoly,
      List.length_cons]
    exact congrArg crcClass (by ring)

/-- Settles O11: the checksum is congruent to `B(x) x^16` and of lower degree than the generator. -/
theorem crcIsPolynomialRemainder : Obligations.CrcIsPolynomialRemainder := by
  intro b
  have hclass : crcClass (bitsPoly (crc16 b)) = crcClass (messagePoly b * X ^ 16) := by
    rw [crc16, crcClass_foldl_crcStep]
    simp [bitsPoly_zero]
  have hdegree : (bitsPoly (crc16 b)).degree < crcPoly.degree := by
    rw [degree_crcPoly]
    exact degree_bitsPoly_lt _
  rw [← (modByMonic_eq_self_iff crcPoly_monic).mpr hdegree]
  exact modByMonic_eq_of_dvd_sub crcPoly_monic (AdjoinRoot.mk_eq_mk.mp hclass)

end Sys2Proof.Machine
end

section
/-! The Codec (`41_codec.md`): what `SER.t` and `DES.t` answer in every state, once for all ten types, and
that each undoes the other. -/

namespace Sys2Proof.Machine

/-- `ser(t, v)` is the index formula of `20_memory.md` R50 (`41_codec.md` R110). -/
theorem ser_eq_wireBytes (o : ByteOrder) (t : ValType) (v : BitVec t.bits) :
    ser o t v = wireBytes o t.width v.toNat :=
  enc_eq_wireBytes o t.width v.toNat

/-- `des(t, B)` is the sum of `20_memory.md` R50 (`41_codec.md` R111). -/
theorem des_eq_wireNat (o : ByteOrder) (t : ValType) (bs : List Byte) :
    des o t bs = BitVec.ofNat t.bits (wireNat o bs) :=
  congrArg (BitVec.ofNat t.bits) (dec_eq_wireNat o bs)

/-- A pattern has `8 * width(t)` bits, so its bytes lose none of them (`41_codec.md` R132). -/
theorem des_ser (o : ByteOrder) (t : ValType) (v : BitVec t.bits) : des o t (ser o t v) = v := by
  rw [des, ser, dec_enc, Nat.mod_eq_of_lt (value_lt v), BitVec.ofNat_toNat, BitVec.setWidth_eq]

/-- `width(t)` bytes decode to a number of `8 * width(t)` bits, so the pattern holds all of it
(`41_codec.md` R132). -/
theorem ser_des (o : ByteOrder) {t : ValType} {bs : List Byte} (h : bs.length = t.width) :
    ser o t (des o t bs) = bs := by
  have hfits : dec o bs < 2 ^ t.bits := by
    rw [bits_eq, ← h]
    exact dec_lt o bs
  rw [ser, des, BitVec.toNat_ofNat, Nat.mod_eq_of_lt hfits, ← h, enc_dec]

theorem exec_des_of_width (s : State) {t : ValType} {bs : List Byte} (h : bs.length = t.width) :
    exec (Instr.des t bs) s = .next (s.giveResult (.ok (.pattern t (des s.params.byteOrder t bs)))) :=
  (exec_des t bs s).trans (if_pos h)

theorem exec_des_of_ne_width (s : State) (bs : List Byte) (t : ValType) (h : bs.length ≠ t.width) :
    exec (Instr.des t bs) s = .refused .wrongWidth :=
  (exec_des t bs s).trans (if_neg h)

theorem exec_des_ser (s : State) {t : ValType} (v : BitVec t.bits) :
    exec (Instr.des t (ser s.params.byteOrder t v)) s = .next (s.giveResult (.ok (.pattern t v))) := by
  rw [exec_des_of_width s (ser_length ..), des_ser]

theorem exec_ser_des (s : State) {t : ValType} {bs : List Byte} (h : bs.length = t.width) :
    exec (Instr.ser t (des s.params.byteOrder t bs)) s = .next (s.giveResult (.ok (.bytes bs))) := by
  rw [exec_ser, serialize, ser_des _ h]

/-- `SER.t` in the words of `20_memory.md` R50, with everything it leaves unchanged. -/
theorem exec_ser_wireBytes (s : State) (t : ValType) (v : BitVec t.bits) :
    exec (Instr.ser t v) s = .next { s with results := s.results ++
      [.ok (.bytes (wireBytes s.params.byteOrder t.width v.toNat))] } := by
  rw [exec_ser, serialize, ser_eq_wireBytes, State.giveResult]

/-- `DES.t` in the words of `20_memory.md` R50, with everything it leaves unchanged. -/
theorem exec_des_wireNat (s : State) (bs : List Byte) (t : ValType) (h : bs.length = t.width) :
    exec (Instr.des t bs) s = .next { s with results := s.results ++
      [.ok (.pattern t (BitVec.ofNat t.bits (wireNat s.params.byteOrder bs)))] } := by
  rw [exec_des_of_width s h, des_eq_wireNat, State.giveResult]

/-- Settles O14: the one answer of `SER.t`, at each type. -/
theorem serializeCompletes : Obligations.SerializeCompletes := fun s =>
  ⟨exec_ser_wireBytes s .u8, exec_ser_wireBytes s .s8, exec_ser_wireBytes s .u16,
    exec_ser_wireBytes s .s16, exec_ser_wireBytes s .u32, exec_ser_wireBytes s .s32,
    exec_ser_wireBytes s .u64, exec_ser_wireBytes s .s64, exec_ser_wireBytes s .f32,
    exec_ser_wireBytes s .f64⟩

/-- Settles O15: the answer of `DES.t` on `width(t)` bytes, at each type. -/
theorem deserializeCompletes : Obligations.DeserializeCompletes := fun s bs =>
  ⟨exec_des_wireNat s bs .u8, exec_des_wireNat s bs .s8, exec_des_wireNat s bs .u16,
    exec_des_wireNat s bs .s16, exec_des_wireNat s bs .u32, exec_des_wireNat s bs .s32,
    exec_des_wireNat s bs .u64, exec_des_wireNat s bs .s64, exec_des_wireNat s bs .f32,
    exec_des_wireNat s bs .f64⟩

/-- Settles O16: the refusal of `DES.t` on any other number of bytes, at each type. -/
theorem deserializeWrongWidthRefused : Obligations.DeserializeWrongWidthRefused := fun s bs =>
  ⟨exec_des_of_ne_width s bs .u8, exec_des_of_ne_width s bs .s8, exec_des_of_ne_width s bs .u16,
    exec_des_of_ne_width s bs .s16, exec_des_of_ne_width s bs .u32, exec_des_of_ne_width s bs .s32,
    exec_des_of_ne_width s bs .u64, exec_des_of_ne_width s bs .s64, exec_des_of_ne_width s bs .f32,
    exec_des_of_ne_width s bs .f64⟩

/-- Settles O17: the first operation keeps the byte order, so the second one undoes it. -/
theorem codecRoundTrip : Obligations.CodecRoundTrip := by
  constructor
  · intro s t v
    exact ⟨_, _, ser_length .., exec_ser t v s, rfl, exec_des_ser (s.giveResult _) v⟩
  · intro s t bs h
    exact ⟨_, _, exec_des_of_width s h, rfl, exec_ser_des (s.giveResult _) h⟩

/-- Settles O18: both answers name the state through its byte order only. -/
theorem codecDependsOnByteOrderOnly : Obligations.CodecDependsOnByteOrderOnly := by
  intro s₁ s₂ horder
  constructor
  · intro t v
    refine ⟨_, exec_ser_wireBytes s₁ t v, ?_⟩
    rw [horder]
    exact exec_ser_wireBytes s₂ t v
  · intro t bs h
    refine ⟨_, exec_des_wireNat s₁ bs t h, ?_⟩
    rw [horder]
    exact exec_des_wireNat s₂ bs t h

end Sys2Proof.Machine
end

section
/-! One `RX.TICK` of the Frame Assembler (`42_rx_assembler.md` R140 to R148) in every state: the three answers
of the completion test, the idle check, and what each does to the state, as record equalities. -/

namespace Sys2Proof.Machine

/-- The frame of `43_tx_builder.md` R170 is the one of `30_encoding.md` R70, field by field. -/
theorem buildFrame_eq_wireFrame (p : Params) (id : Ident) (q : List Byte) :
    buildFrame p id q = wireFrame p id q := by
  simp only [buildFrame, frameBody, wireFrame, encId, enc_eq_wireBytes]

/-- A signal changes nothing but the events (`44_signals.md` R190). -/
theorem signal_eq_signalled (sig : Ident) (q : List Byte) (s : State) :
    signal sig q s = { s with events := s.signalled sig q } := by
  have hclamp : q.take (clamp s.params q.length) = q.take s.params.maxPayload.val := by
    rw [clamp, min_comm, ← List.take_take, List.take_length]
  simp only [signal_eq, hclamp, buildFrame_eq_wireFrame, State.signalled, Bool.and_eq_true]
  split <;> rfl

/-- `60_exceptions.md` R221. -/
theorem raise_checksumMismatch_eq (s : State) :
    raise .checksumMismatch s = { s with cursor := 0, events := s.signalled s.params.sigChecksum [] } :=
  signal_eq_signalled _ _ { s with cursor := 0 }

/-- `60_exceptions.md` R222. -/
theorem raise_frameTimeout_eq (s : State) :
    raise .frameTimeout s = { s with cursor := 0, events := s.signalled s.params.sigTimeout [] } :=
  signal_eq_signalled _ _ { s with cursor := 0 }

/-- What an attempt to signal adds to the events: nothing or its frame. -/
theorem signalled_cases (s : State) (sig : Ident) :
    s.signalled sig [] = s.events ∨
      s.signalled sig [] = s.events ++ [.sink (wireFrame s.params sig [])] := by
  unfold State.signalled
  split
  · rw [List.take_nil]
    exact .inr rfl
  · exact .inl rfl

/-- The stored bytes end a frame (`42_rx_assembler.md` R144). -/
def State.FrameEnds (s : State) : Prop := s.params.hdr ≤ s.cursor ∧ s.cursor = s.frameTotal

theorem frameEnds_iff (s : State) : s.FrameEnds ↔ s.cursor = s.frameTotal := by
  have := hdr_lt_frameTotal s
  exact ⟨And.right, fun h => ⟨by omega, h⟩⟩

theorem checkFrame_of_not_ends {s : State} (h : ¬ s.FrameEnds) : checkFrame s = s := if_neg h

theorem checkFrame_of_match {s : State} (h : s.FrameEnds) (hcrc : s.calcCrc = s.recvCrc) :
    checkFrame s = deliver s := (if_pos h).trans (if_pos hcrc)

theorem checkFrame_of_mismatch {s : State} (h : s.FrameEnds) (hcrc : s.calcCrc ≠ s.recvCrc) :
    checkFrame s = { s with cursor := 0, events := s.signalled s.params.sigChecksum [] } :=
  (if_pos h).trans ((if_neg hcrc).trans (raise_checksumMismatch_eq s))

/-- The two checksums agree exactly when the computed one is the number on the wire (`42_rx_assembler.md`
R145): two bytes lose no bit in a 16-bit register. -/
theorem calcCrc_eq_recvCrc_iff (s : State) :
    s.calcCrc = s.recvCrc ↔
      s.calcCrc.toNat = wireNat s.params.byteOrder (s.memRead (s.params.hdr + s.declaredLen) 2) := by
  have hlt := dec_lt s.params.byteOrder (s.memRead (s.params.hdr + s.declaredLen) 2)
  rw [memRead_length] at hlt
  rw [← dec_eq_wireNat, ← BitVec.toNat_inj, State.recvCrc, BitVec.toNat_ofNat, Nat.mod_eq_of_lt hlt]

/-- Settles O28: the enable gate comes before the poll and the sample. -/
theorem disabledTickDoesNothing : Obligations.DisabledTickDoesNothing := fun _ he => execRxTick_disabled he

/-- Settles O33: of what `RX.TICK` can do, only the store above `CAP` is no next state. -/
theorem tickCompletesUpToCapacity : Obligations.TickCompletesUpToCapacity := by
  intro s
  refine ⟨fun hc => ?_, fun hc he ⟨b, hr⟩ => execRxTick_fault he hr hc⟩
  obtain ⟨-, e⟩ | ⟨-, -, e⟩ | ⟨b, -, -, -, e⟩ | ⟨b, -, -, hgt, -⟩ := execRxTick_withByte s
  · exact ⟨_, e⟩
  · exact ⟨_, e⟩
  · exact ⟨_, e⟩
  · exact absurd hc hgt.not_ge

/-- Settles O29: the byte ends no frame, so the completion test leaves it stored. -/
theorem acceptedByteStored : Obligations.AcceptedByteStored := by
  intro s b he hr hc u lc hshort
  have hopen : ¬ u.FrameEnds := fun ⟨hh, hT⟩ => hshort.elim hh.not_gt (· hT)
  rw [exec_rxTick, execRxTick_byte he hr hc, checkFrame_of_not_ends hopen]

/-- Settles O30: the completion test answers with a delivery, whose received checksum is the computed one. -/
theorem validFrameDelivered : Obligations.ValidFrameDelivered := by
  intro s b he hr hc u lc h id crc hend hcrc
  have hmatch : u.calcCrc = u.recvCrc := (calcCrc_eq_recvCrc_iff u).mpr hcrc
  have hid : u.recvId = id := congrArg (BitVec.ofNat 16) (dec_eq_wireNat ..)
  rw [exec_rxTick, execRxTick_byte he hr hc, checkFrame_of_match ((frameEnds_iff u).mpr hend) hmatch,
    deliver, State.latchFrame, hid, ← hmatch]
  rfl

/-- Settles O31: the completion test answers with the error, which touches the cursor and the events only. -/
theorem checksumMismatchResetsBuffer : Obligations.ChecksumMismatchResetsBuffer := by
  intro s b he hr hc u lc h hend hcrc
  have hdiffer : u.calcCrc ≠ u.recvCrc := mt (calcCrc_eq_recvCrc_iff u).mp hcrc
  rw [exec_rxTick, execRxTick_byte he hr hc, checkFrame_of_mismatch ((frameEnds_iff u).mpr hend) hdiffer]
  rfl

/-- Settles O32: the idle check runs on the state with its inputs consumed. -/
theorem idleTickTimesOutStrictly : Obligations.IdleTickTimesOutStrictly := by
  intro s he hr u elapsed
  have htime := timedOut_takeInputs_iff s s.now
  rw [exec_rxTick, execRxTick_noByte he hr]
  obtain ⟨hn, e⟩ | ⟨hy, e⟩ := checkIdle_cases s.now s.takeInputs <;> rw [e]
  · exact ⟨fun hlate => absurd (htime.mpr hlate) (by simp [hn]), fun _ => rfl⟩
  · exact ⟨fun _ => congrArg _ (raise_frameTimeout_eq s.takeInputs), fun hn => absurd (htime.mp hy) hn⟩

/-- Settles O34: the completion test and the idle check, each on its own kind of invocation. -/
theorem oneEventPerTick : Obligations.OneEventPerTick := by
  intro s t hx
  obtain ⟨-, e⟩ | ⟨-, hr, e⟩ | ⟨b, -, hr, -, e⟩ | ⟨b, -, -, -, e⟩ := execRxTick_withByte s <;>
    rw [exec_rxTick, e] at hx <;> cases hx
  · exact ⟨.inl rfl, .inl rfl⟩
  · obtain ⟨-, e⟩ | ⟨-, e⟩ := checkIdle_cases s.now s.takeInputs <;> rw [e]
    · exact ⟨.inl rfl, .inr rfl⟩
    · rw [raise_frameTimeout_eq]
      exact ⟨(signalled_cases s.takeInputs _).imp id fun h =>
        ⟨_, h, .inr (.inr ⟨by rw [hr]; rfl, rfl⟩)⟩, .inr rfl⟩
  · have hbyte : s.rxIn.isSome = true := by rw [hr]; rfl
    obtain ⟨-, e⟩ | ⟨-, -, e⟩ | ⟨-, -, e⟩ := checkFrame_cases (s.withByte b) <;> rw [e]
    · exact ⟨.inl rfl, .inr rfl⟩
    · exact ⟨.inr ⟨_, rfl, .inl ⟨_, _, _, _, rfl, hbyte⟩⟩, .inr rfl⟩
    · rw [raise_checksumMismatch_eq]
      exact ⟨(signalled_cases (s.withByte b) _).imp id fun h =>
        ⟨_, h, .inr (.inl ⟨hbyte, rfl⟩)⟩, .inr rfl⟩

/-- Settles O35: only an accepted byte is stored, and neither the completion test nor the idle check writes. -/
theorem tickWritesOneBufferByte : Obligations.TickWritesOneBufferByte := by
  intro s t hwf hx a
  obtain ⟨he, e⟩ | ⟨-, hr, e⟩ | ⟨b, he, hr, -, e⟩ | ⟨b, -, -, -, e⟩ := execRxTick_withByte s <;>
    rw [exec_rxTick, e] at hx <;> cases hx
  · exact ⟨fun _ _ => rfl, by simp [he], fun _ _ => rfl⟩
  · rw [checkIdle_rxbuf]
    exact ⟨fun _ _ => rfl, by simp [hr], fun _ _ => rfl⟩
  · have hread (i : Nat) : Memory.read (s.withByte b).rxbuf i = if a = i then b else Memory.read s.rxbuf i :=
      Memory.read_write hwf a b i
    simp only [checkFrame_rxbuf, hread]
    exact ⟨fun i hi => if_neg (Ne.symm hi), by simp [hr], by simp [he, hr]⟩

theorem enc_zero (o : ByteOrder) (n : Nat) : enc o n 0 = List.replicate n 0x00 := by
  have hbe : beBytes n 0 = List.replicate n 0x00 := by simp [beBytes_eq_map]
  cases o
  · exact hbe
  · rw [enc, leBytes_eq_reverse, hbe, List.reverse_replicate]

/-- Settles O38: the fields before the checksum are zero bytes, so the checksum is zero too. -/
theorem zeroBytesAreAFrame : Obligations.ZeroBytesAreAFrame := by
  intro p
  have hbody : frameBody p 0 [] = List.replicate p.hdr 0x00 := by
    rw [frameBody, encId, List.append_nil, hdr_eq, List.replicate_succ']
    exact congrArg (· ++ [0x00]) (enc_zero ..)
  have hcrc : (crc16 (List.replicate p.hdr 0x00)).toNat = 0 :=
    congrArg BitVec.toNat (crcIgnoresLeadingZeros p.hdr []).2
  rw [buildFrame, hbody, hcrc, enc_zero, List.replicate_append_replicate]
  rfl

end Sys2Proof.Machine
end

section
/-! Runs of `RX.TICK` fed by a script (`42_rx_assembler.md` R153): what the channel holds after each answer, up
to the byte that ends the frame. -/

namespace Sys2Proof.Machine

/-- The bytes of a script, in order. -/
def Script.bytes (script : Script) : List Byte := script.filterMap (fun x => x.1)

@[simp] theorem bytes_nil : Script.bytes [] = [] := rfl

@[simp] theorem bytes_silence (n : Nat) (script : Script) :
    Script.bytes ((none, n) :: script) = script.bytes := rfl

@[simp] theorem bytes_byte (b : Byte) (n : Nat) (script : Script) :
    Script.bytes ((some b, n) :: script) = b :: script.bytes := rfl

@[simp] theorem rxAnswer_rxCode (answer : Option Byte) : rxAnswer (rxCode answer) = answer := by
  cases answer with
  | none => rfl
  | some b =>
    have hclear : (b.setWidth 9).msb = false := by simp [BitVec.msb_setWidth]
    have hbits : (b.setWidth 9).setWidth 8 = b := by simp
    simp only [rxCode, rxAnswer, hclear, hbits, Bool.false_eq_true, if_false]

theorem prompt_head_lt {w idle : Nat} {last : Option Nat} {answer : Option Byte} {n : Nat} {rest : Script}
    (h : Prompt w idle last ((answer, n) :: rest)) : n < 2 ^ w := by
  cases answer <;> cases last <;> exact h.1

theorem prompt_byte {w idle : Nat} {last : Option Nat} {b : Byte} {n : Nat} {rest : Script}
    (h : Prompt w idle last ((some b, n) :: rest)) : Prompt w idle (some n) rest := by
  cases last <;> exact h.2

theorem prompt_silence {w idle : Nat} {last : Option Nat} {n : Nat} {rest : Script}
    (h : Prompt w idle last ((none, n) :: rest)) :
    (∀ l, last = some l → truncSub w n l ≤ idle) ∧ Prompt w idle last rest := by
  cases last with
  | none => exact ⟨nofun, h.2⟩
  | some l => exact ⟨fun _ hl => Option.some.inj hl ▸ h.2.1, h.2.2⟩

/-- The buffer `m` is in canonical form and holds the bytes `q` from address 0 on. -/
def Holds (m : Memory) (q : List Byte) : Prop :=
  Memory.wf m = true ∧ ∀ i (h : i < q.length), Memory.read m i = q[i]

theorem Holds.write {m : Memory} {q : List Byte} (h : Holds m q) (b : Byte) :
    Holds (Memory.write m q.length b) (q ++ [b]) := by
  obtain ⟨hwf, hread⟩ := h
  refine ⟨Memory.wf_write hwf _ _, fun i hi => ?_⟩
  rw [Memory.read_write hwf]
  split
  · subst ‹q.length = i›
    simp
  · have hold : i < q.length := by
      rw [List.length_append, List.length_singleton] at hi
      omega
    rw [hread i hold, List.getElem_append_left hold]

/-- From `s`, with nothing but silence and bytes that end no frame, `u` was reached: it has accumulated the
bytes `q`, the last one at the tick `last`, and `rest` of the script is still to come. -/
structure Receiving (s : State) (q : List Byte) (last : Option Nat) (rest : Script) (u : State) : Prop where
  /-- Only the buffer, its bookkeeping and the inputs have changed. -/
  frame : u = { s.fed rest with
    rxbuf := u.rxbuf, cursor := q.length, lastActivity := u.lastActivity, tickIndex := u.tickIndex }
  holds : Holds u.rxbuf q
  /-- While the buffer is empty the timestamp does not matter (`42_rx_assembler.md` R147). -/
  clock : q = [] ∨ last = some u.lastActivity

theorem receiving_fed {s : State} (hc : s.cursor = 0) (hwf : Memory.wf s.rxbuf = true) (script : Script) :
    Receiving s [] none script (s.fed script) where
  frame := by rw [List.length_nil, ← hc]; rfl
  holds := ⟨hwf, nofun⟩
  clock := .inl rfl

section
variable {s u : State} {q : List Byte} {last : Option Nat} {rest : Script}

theorem Receiving.params (h : Receiving s q last rest u) : u.params = s.params :=
  (congrArg State.params h.frame).trans rfl

theorem Receiving.cfg (h : Receiving s q last rest u) : u.cfg = s.cfg :=
  (congrArg State.cfg h.frame).trans rfl

theorem Receiving.events (h : Receiving s q last rest u) : u.events = s.events :=
  (congrArg State.events h.frame).trans rfl

theorem Receiving.rxfId (h : Receiving s q last rest u) : u.rxfId = s.rxfId :=
  (congrArg State.rxfId h.frame).trans rfl

theorem Receiving.rxfLen (h : Receiving s q last rest u) : u.rxfLen = s.rxfLen :=
  (congrArg State.rxfLen h.frame).trans rfl

theorem Receiving.rxfPayload (h : Receiving s q last rest u) : u.rxfPayload = s.rxfPayload :=
  (congrArg State.rxfPayload h.frame).trans rfl

theorem Receiving.rxfCrc (h : Receiving s q last rest u) : u.rxfCrc = s.rxfCrc :=
  (congrArg State.rxfCrc h.frame).trans rfl

theorem Receiving.rxfValid (h : Receiving s q last rest u) : u.rxfValid = s.rxfValid :=
  (congrArg State.rxfValid h.frame).trans rfl

theorem Receiving.cursor (h : Receiving s q last rest u) : u.cursor = q.length :=
  congrArg State.cursor h.frame

theorem Receiving.rxIn {x : Option Byte × Nat} (h : Receiving s q last (x :: rest) u) : u.rxIn = x.1 :=
  (congrArg State.rxIn h.frame).trans (rxAnswer_rxCode x.1)

theorem Receiving.now {x : Option Byte × Nat} (h : Receiving s q last (x :: rest) u)
    (hn : x.2 < 2 ^ s.params.tickW) : u.now = x.2 :=
  (congrArg State.now h.frame).trans (Nat.mod_eq_of_lt hn)

/-- A silence no longer than the idle timeout only consumes the inputs. -/
theorem Receiving.silence {n : Nat} (h : Receiving s q last ((none, n) :: rest) u)
    (he : s.cfg.enabled = true)
    (hp : Prompt s.params.tickW s.cfg.idleTimeout last ((none, n) :: rest)) :
    exec .rxTick u = .next u.takeInputs ∧ Receiving s q last rest u.takeInputs := by
  have hnow : u.now = n := h.now (prompt_head_lt hp)
  have hearly : u.takeInputs.timedOut u.now = false := by
    obtain hempty | hlast := h.clock
    · simp [State.timedOut, h.cursor, hempty]
    · have hidle := (prompt_silence hp).1 _ hlast
      simp [State.timedOut, State.elapsed, hnow, h.params, h.cfg, hidle]
  refine ⟨?_, ?_, h.holds, h.clock⟩
  · rw [exec_rxTick, execRxTick_noByte (h.cfg ▸ he) h.rxIn, checkIdle, hearly, if_neg Bool.false_ne_true]
  · exact congrArg State.takeInputs h.frame

/-- A byte is stored behind the ones before it; what follows is the completion test. -/
theorem Receiving.byte {b : Byte} {n : Nat} (h : Receiving s q last ((some b, n) :: rest) u)
    (he : s.cfg.enabled = true) (hn : n < 2 ^ s.params.tickW) (hroom : q.length < s.params.cap) :
    exec .rxTick u = .next (checkFrame (u.withByte b)) ∧
      Receiving s (q ++ [b]) (some n) rest (u.withByte b) := by
  have hroom : u.cursor < u.params.cap := by rwa [h.cursor, h.params]
  have hstore : (u.withByte b).rxbuf = Memory.write u.rxbuf q.length b := by
    simp only [State.withByte, if_neg hroom.ne]
    rw [h.cursor]
  have hcount : (u.withByte b).cursor = (q ++ [b]).length := by
    simp only [State.withByte, if_neg hroom.ne]
    rw [h.cursor, List.length_append, List.length_singleton]
  refine ⟨execRxTick_byte (h.cfg ▸ he) h.rxIn hroom.le, ?_, hstore ▸ h.holds.write b, .inr ?_⟩
  · rw [← hcount]
    exact congrArg (fun v : State => { v with
      rxbuf := (u.withByte b).rxbuf, cursor := (u.withByte b).cursor
      lastActivity := u.now, tickIndex := u.tickIndex + 1
      source := v.source.tail, ticks := v.ticks.tail }) h.frame
  · exact congrArg some (h.now hn).symm

/-- A span below the cursor reads back the bytes accumulated there. -/
theorem Receiving.memRead {i n : Nat} (h : Receiving s q last rest u) (hspan : i + n ≤ q.length) :
    u.memRead i n = (q.drop i).take n := by
  refine List.ext_getElem (by simp; omega) fun j hj _ => ?_
  have hj : j < n := by simpa using hj
  simp [State.memRead, h.holds.2 (i + j) (by omega)]

theorem Receiving.declaredLen (h : Receiving s q last rest u) (hlen : s.params.hdr ≤ q.length) :
    u.declaredLen = clamp s.params (q.getD s.params.idBytes 0).toNat := by
  have hin : s.params.idBytes < q.length := hlen
  rw [State.declaredLen, h.params, h.holds.2 _ hin, List.getD_eq_getElem _ _ hin]

end

/-- `body` and `check` are a frame by its LENGTH byte: the receiver takes `body` for the bytes of a whole frame
before its checksum (`42_rx_assembler.md` R144). -/
structure Framed (p : Params) (body check : List Byte) : Prop where
  bodyLength : body.length = p.hdr + clamp p (body.getD p.idBytes 0).toNat
  checkLength : check.length = 2

section
variable {s u : State} {q r body check : List Byte} {last : Option Nat} {rest : Script}

theorem Framed.length_le_cap {p : Params} (hf : Framed p body check) : (body ++ check).length ≤ p.cap := by
  have := clamp_le p (body.getD p.idBytes 0).toNat
  rw [List.length_append, hf.bodyLength, hf.checkLength, cap_eq, hdr_eq]
  omega

/-- From the LENGTH byte on, the frame's end is known (`42_rx_assembler.md` R144). -/
theorem Receiving.frameTotal (h : Receiving s q last rest u) (hf : Framed s.params body check)
    (hq : q ++ r = body ++ check) (hlen : s.params.hdr ≤ q.length) :
    u.frameTotal = (body ++ check).length := by
  have hbody : s.params.idBytes < body.length := by
    have := hf.bodyLength
    have := hdr_eq s.params
    omega
  have hbyte : q.getD s.params.idBytes 0 = body.getD s.params.idBytes 0 := by
    rw [← List.getD_append q r _ _ hlen, hq, List.getD_append body check _ _ hbody]
  rw [State.frameTotal, h.declaredLen hlen, h.params, hbyte, ← hf.bodyLength, List.length_append,
    hf.checkLength]

/-- The frame does not end while bytes of it are still to come. -/
theorem Receiving.not_frameEnds (h : Receiving s q last rest u) (hf : Framed s.params body check)
    (hq : q ++ r = body ++ check) (hr : r ≠ []) : ¬ u.FrameEnds := by
  rintro ⟨hhdr, hT⟩
  rw [h.params, h.cursor] at hhdr
  rw [h.frameTotal hf hq hhdr, h.cursor, ← hq, List.length_append] at hT
  exact hr (List.length_eq_zero_iff.mp (by omega))

/-- A prompt script with the next bytes of a frame, but not all that are left, is received without an event. -/
theorem Receiving.run {before : Script} (h : Receiving s q last (before ++ rest) u)
    (he : s.cfg.enabled = true) (hf : Framed s.params body check)
    (hq : q ++ before.bytes ++ r = body ++ check) (hr : r ≠ [])
    (hp : Prompt s.params.tickW s.cfg.idleTimeout last (before ++ rest)) :
    ∃ v last', runTicks before.length u = .next v ∧ Receiving s (q ++ before.bytes) last' rest v ∧
      Prompt s.params.tickW s.cfg.idleTimeout last' rest := by
  induction before generalizing q last u with
  | nil => exact ⟨u, last, rfl, by simpa using h, hp⟩
  | cons x before ih =>
    obtain ⟨answer, n⟩ := x
    cases answer with
    | none =>
      obtain ⟨hx, h'⟩ := h.silence he hp
      simpa only [List.length_cons, runTicks, hx, bytes_silence] using ih h' hq (prompt_silence hp).2
    | some b =>
      have hq' : q ++ [b] ++ Script.bytes before ++ r = body ++ check := by simpa using hq
      have hroom : q.length < s.params.cap := by
        have := hf.length_le_cap
        rw [← hq'] at this
        simp only [List.length_append, List.length_singleton] at this
        omega
      obtain ⟨hx, h'⟩ := h.byte he (prompt_head_lt hp) hroom
      have hopen := h'.not_frameEnds hf ((List.append_assoc ..).symm.trans hq') (by simp [hr])
      rw [checkFrame_of_not_ends hopen] at hx
      simpa only [List.length_cons, runTicks, hx, bytes_byte, List.append_assoc, List.singleton_append]
        using ih h' hq' (prompt_byte hp)

/-- Fed a frame by a prompt script, an empty channel emits nothing before the last byte, and that byte's
completion test runs on exactly the bytes of the frame (`42_rx_assembler.md` R153, R155). -/
theorem feed_frame {before : Script} {b : Byte} {n : Nat} (he : s.cfg.enabled = true) (hc : s.cursor = 0)
    (hwf : Memory.wf s.rxbuf = true) (hf : Framed s.params body check)
    (hbytes : Script.bytes (before ++ [(some b, n)]) = body ++ check)
    (hp : Prompt s.params.tickW s.cfg.idleTimeout none (before ++ [(some b, n)])) :
    ∃ u v, runTicks before.length (s.fed (before ++ [(some b, n)])) = .next u ∧ u.events = s.events ∧
      exec .rxTick u = .next (checkFrame v) ∧ Receiving s (body ++ check) (some n) [] v := by
  have hsplit : before.bytes ++ [b] = body ++ check := by
    rw [← hbytes, Script.bytes, Script.bytes, List.filterMap_append]
    rfl
  obtain ⟨u, last, hrun, hu, hp'⟩ :=
    (receiving_fed hc hwf _).run he hf (r := [b]) hsplit (List.cons_ne_nil _ _) hp
  have hroom : before.bytes.length < s.params.cap := by
    have := hf.length_le_cap
    rw [← hsplit, List.length_append, List.length_singleton] at this
    omega
  obtain ⟨hx, hv⟩ := hu.byte he (prompt_head_lt hp') hroom
  exact ⟨u, u.withByte b, hrun, hu.events, hx, hsplit ▸ hv⟩

end

section
variable {s v : State} {body check : List Byte} {last : Option Nat} {rest : Script}
  (h : Receiving s (body ++ check) last rest v) (hf : Framed s.params body check)
include h hf

theorem Receiving.frameEnds : v.FrameEnds := by
  have hhdr : s.params.hdr ≤ (body ++ check).length := by
    have := hf.bodyLength
    rw [List.length_append]
    omega
  rw [frameEnds_iff, h.frameTotal hf (List.append_nil _) hhdr, h.cursor]

theorem Receiving.hdr_add_declaredLen : v.params.hdr + v.declaredLen = body.length := by
  have hend := h.frameEnds hf
  rw [frameEnds_iff, h.cursor, State.frameTotal, List.length_append, hf.checkLength] at hend
  omega

theorem Receiving.calcCrc : v.calcCrc = crc16 body := by
  rw [State.calcCrc, h.hdr_add_declaredLen hf, h.memRead (by simp), List.drop_zero, List.take_left]

theorem Receiving.recvCrc : v.recvCrc = BitVec.ofNat 16 (dec s.params.byteOrder check) := by
  rw [State.recvCrc, h.hdr_add_declaredLen hf, h.memRead (by simp [hf.checkLength]), List.drop_left,
    ← hf.checkLength, List.take_length, h.params]

end

/-- A frame the block builds is one the receiver takes whole. -/
theorem framed_buildFrame (p : Params) (id : Ident) {payload : List Byte}
    (hlen : payload.length ≤ p.maxPayload.val) :
    Framed p (frameBody p id payload) (enc p.byteOrder 2 (crc16 (frameBody p id payload)).toNat) where
  bodyLength := by
    have hin : p.idBytes < (frameBody p id payload).length := by
      rw [frameBody_length, hdr_eq]
      omega
    have hbyte : (frameBody p id payload).getD p.idBytes 0 = BitVec.ofNat 8 payload.length := by
      rw [← buildFrame_lengthByte p id payload, buildFrame, List.getD_append _ _ _ _ hin]
    have := maxPayload_le p
    rw [frameBody_length, hbyte, BitVec.toNat_ofNat, Nat.mod_eq_of_lt (by omega), clamp, min_eq_left hlen]
  checkLength := enc_length ..

/-- The checksum on the wire is read back whole. -/
theorem ofNat_dec_enc_crc (o : ByteOrder) (crc : Word16) :
    BitVec.ofNat 16 (dec o (enc o 2 crc.toNat)) = crc := by
  rw [dec_enc, Nat.mod_eq_of_lt crc.isLt, BitVec.ofNat_toNat, BitVec.setWidth_eq]

theorem decId_encId {p : Params} {id : Ident} (h : id.toNat ≤ p.idMax) : decId p (encId p id) = id := by
  have hlt : id.toNat < 2 ^ (8 * p.idBytes) := Nat.lt_of_le_pred (Nat.two_pow_pos _) h
  rw [decId, encId, dec_enc, Nat.mod_eq_of_lt hlt, BitVec.ofNat_toNat, BitVec.setWidth_eq]

section
variable {s v : State} {id : Ident} {payload check : List Byte} {last : Option Nat} {rest : Script}
  (h : Receiving s (frameBody s.params id payload ++ check) last rest v)
include h

theorem Receiving.recvId (hid : id.toNat ≤ s.params.idMax) : v.recvId = id := by
  have hread : v.memRead 0 s.params.idBytes = encId s.params id := by
    rw [h.memRead (by rw [List.length_append, frameBody_length, hdr_eq]; omega), List.drop_zero, frameBody,
      List.append_assoc, List.append_assoc, List.take_left' (encId_length ..)]
  rw [State.recvId, h.params, hread, decId_encId hid]

theorem Receiving.recvPayload (hlen : v.declaredLen = payload.length) : v.recvPayload = payload := by
  have hheader : (encId s.params id ++ [BitVec.ofNat 8 payload.length]).length = s.params.hdr := by
    rw [List.length_append, encId_length, List.length_singleton, hdr_eq]
  rw [State.recvPayload, hlen, h.params,
    h.memRead (by rw [List.length_append, frameBody_length]; omega), frameBody, List.append_assoc,
    List.drop_left' hheader, List.take_left]

end

/-- Settles O36: the run feeds the frame, and its completion test finds the checksum it was built with. -/
theorem loopBackDelivers : Obligations.LoopBackDelivers := by
  intro s id payload before b n he hc hwf hid hlen hbytes hp crc
  have hf := framed_buildFrame s.params id hlen
  obtain ⟨u, v, hrun, hevents, hx, hv⟩ := feed_frame he hc hwf hf hbytes hp
  have hcrc : v.recvCrc = crc := by rw [hv.recvCrc hf, ofNat_dec_enc_crc]
  have hdeclared : v.declaredLen = payload.length := by
    have := hv.hdr_add_declaredLen hf
    rw [hv.params, frameBody_length] at this
    omega
  have hident : v.recvId = id := hv.recvId hid
  have hpayload : v.recvPayload = payload := hv.recvPayload hdeclared
  rw [checkFrame_of_match (hv.frameEnds hf) ((hv.calcCrc hf).trans hcrc.symm)] at hx
  refine ⟨u, _, hrun, hevents, hx, ?_, rfl, hident, hdeclared, hcrc, rfl, ?_⟩
  · rw [deliver_events, hident, hdeclared, hpayload, hcrc, hv.events]
  · rw [deliver_rxfPayload, hpayload, hdeclared, hv.params]

/-- The bytes `q` with bit `k` of byte `j` flipped (`42_rx_assembler.md` R155). -/
def flipBit (q : List Byte) (j k : Nat) : List Byte := q.set j (q.getD j 0 ^^^ (1#8 <<< k))

@[simp] theorem flipBit_length (q : List Byte) (j k : Nat) : (flipBit q j k).length = q.length :=
  List.length_set

theorem flipBit_getD_ne {q : List Byte} {i j : Nat} (k : Nat) (h : j ≠ i) :
    (flipBit q j k).getD i 0 = q.getD i 0 := by
  rw [List.getD_eq_getElem?_getD, flipBit, List.getElem?_set_ne h, ← List.getD_eq_getElem?_getD]

theorem flipBit_append_left {q r : List Byte} {j : Nat} (k : Nat) (h : j < q.length) :
    flipBit (q ++ r) j k = flipBit q j k ++ r := by
  rw [flipBit, List.getD_append _ _ _ _ h, List.set_append_left _ _ h, flipBit]

theorem flipBit_append_right {q r : List Byte} {j : Nat} (k : Nat) (h : q.length ≤ j) :
    flipBit (q ++ r) j k = q ++ flipBit r (j - q.length) k := by
  rw [flipBit, List.getD_append_right _ _ _ _ h, List.set_append_right _ _ h, flipBit]

theorem flipBit_eq_split {q : List Byte} {j : Nat} (k : Nat) (h : j < q.length) :
    flipBit q j k = q.take j ++ (q[j] ^^^ (1#8 <<< k)) :: q.drop (j + 1) := by
  rw [flipBit, List.getD_eq_getElem _ _ h, List.set_eq_take_append_cons_drop, if_pos h]

/-- A flipped bit changes the checksum of the bytes (`40_crc.md` R105 (e)). -/
theorem crc16_flipBit_ne {q : List Byte} {j k : Nat} (hj : j < q.length) (hk : k < 8) :
    crc16 (flipBit q j k) ≠ crc16 q := by
  have h := crcDetectsSingleBitErrors (q.take j) (q.drop (j + 1)) q[j] k hk
  rw [← flipBit_eq_split k hj, ← List.drop_eq_getElem_cons, List.take_append_drop] at h
  exact h.symm

theorem flipBit_ne {q : List Byte} {j k : Nat} (hj : j < q.length) (hk : k < 8) : flipBit q j k ≠ q :=
  fun h => crc16_flipBit_ne hj hk (congrArg crc16 h)

/-- Two bytes are read into a 16-bit register without loss (`20_memory.md` R50). -/
theorem ofNat_dec_injective {o : ByteOrder} {q r : List Byte} (hq : q.length = 2) (hr : r.length = 2)
    (h : BitVec.ofNat 16 (dec o q) = BitVec.ofNat 16 (dec o r)) : q = r := by
  have hword (q : List Byte) (hq : q.length = 2) : enc o 2 (BitVec.ofNat 16 (dec o q)).toNat = q := by
    have hlt : dec o q < 2 ^ 16 := by simpa [hq] using dec_lt o q
    rw [BitVec.toNat_ofNat, Nat.mod_eq_of_lt hlt, ← hq, enc_dec]
  rw [← hword q hq, h, hword r hr]

/-- A frame with a right checksum and one bit flipped outside the LENGTH byte is still a frame, with a wrong one
(`42_rx_assembler.md` R155). -/
theorem Framed.exists_flipBit {p : Params} {body check : List Byte} {j k : Nat} (hf : Framed p body check)
    (hcrc : BitVec.ofNat 16 (dec p.byteOrder check) = crc16 body) (hj : j < (body ++ check).length)
    (hid : j ≠ p.idBytes) (hk : k < 8) :
    ∃ body' check', flipBit (body ++ check) j k = body' ++ check' ∧ Framed p body' check' ∧
      crc16 body' ≠ BitVec.ofNat 16 (dec p.byteOrder check') := by
  by_cases hin : j < body.length
  · refine ⟨_, check, flipBit_append_left k hin, ⟨?_, hf.checkLength⟩, ?_⟩
    · rw [flipBit_length, flipBit_getD_ne k hid, hf.bodyLength]
    · rw [hcrc]
      exact crc16_flipBit_ne hin hk
  · rw [List.length_append] at hj
    refine ⟨body, _, flipBit_append_right k (not_lt.mp hin), ⟨hf.bodyLength, ?_⟩, ?_⟩
    · rw [flipBit_length, hf.checkLength]
    · rw [← hcrc]
      refine fun h => flipBit_ne (q := check) (j := j - body.length) (by omega) hk ?_
      exact (ofNat_dec_injective hf.checkLength (by rw [flipBit_length, hf.checkLength]) h).symm

/-- Settles O37: the flipped frame still ends on its last byte, where the completion test finds the checksums to
differ. -/
theorem singleBitCorruptionRejected : Obligations.SingleBitCorruptionRejected := by
  intro s id payload f j k before b n he hc hwf hlen hframe hj hne hk hbytes hp
  subst hframe
  obtain ⟨body, check, hflip, hf, hwrong⟩ :=
    (framed_buildFrame s.params id hlen).exists_flipBit (ofNat_dec_enc_crc ..) hj hne hk
  obtain ⟨u, v, hrun, hevents, hx, hv⟩ := feed_frame he hc hwf hf (hbytes.trans hflip) hp
  have hdiffer : v.calcCrc ≠ v.recvCrc := by
    rwa [hv.calcCrc hf, hv.recvCrc hf]
  rw [checkFrame_of_mismatch (hv.frameEnds hf) hdiffer] at hx
  refine ⟨u, _, hrun, hevents, hx, ?_, rfl, hv.rxfId, hv.rxfLen, hv.rxfPayload, hv.rxfCrc, hv.rxfValid⟩
  simp only [State.signalled, hv.params, hv.cfg, hv.events]

end Sys2Proof.Machine
end

section
/-! The Frame Builder (`43_tx_builder.md`): the fields of a built frame, what each `TX` operation does in every
state, and that every frame handed to the sink is a valid one. -/

namespace Sys2Proof.Machine

/-- The header of a frame, IDENTIFIER and LENGTH, is `H` bytes (`00_scope.md` R9). -/
theorem frameHeader_length (p : Params) (id : Ident) (b : Byte) : (encId p id ++ [b]).length = p.hdr := by
  rw [List.length_append, encId_length, List.length_singleton, hdr_eq]

theorem buildFrame_take_body (p : Params) (id : Ident) (q : List Byte) :
    (buildFrame p id q).take (p.hdr + q.length) = frameBody p id q :=
  List.take_left' (frameBody_length p id q)

/-- The checksum stands behind the bytes it covers (`30_encoding.md` R70). -/
theorem buildFrame_drop_body (p : Params) (id : Ident) (q : List Byte) :
    (buildFrame p id q).drop (p.hdr + q.length) = enc p.byteOrder 2 (crc16 (frameBody p id q)).toNat :=
  List.drop_left' (frameBody_length p id q)

/-- The IDENTIFIER stands first (`30_encoding.md` R70, R72). -/
theorem buildFrame_take_id (p : Params) (id : Ident) (q : List Byte) :
    (buildFrame p id q).take p.idBytes = encId p id := by
  rw [buildFrame, frameBody, List.append_assoc, List.append_assoc, List.take_left' (encId_length p id)]

/-- The PAYLOAD stands behind the header (`30_encoding.md` R70). -/
theorem buildFrame_payload (p : Params) (id : Ident) (q : List Byte) :
    ((buildFrame p id q).drop p.hdr).take q.length = q := by
  rw [buildFrame, frameBody, List.append_assoc, List.drop_left' (frameHeader_length p id _), List.take_left]

/-- A payload of at most `MAX_PAYLOAD` bytes has its whole length in the LENGTH byte (`30_encoding.md` R74). -/
theorem toNat_lengthByte {p : Params} {q : List Byte} (hq : q.length ≤ p.maxPayload.val) :
    (BitVec.ofNat 8 q.length).toNat = q.length := by
  have := maxPayload_le p
  rw [BitVec.toNat_ofNat, Nat.mod_eq_of_lt (by omega)]

/-- Settles O19: the frame is cut at the ends of its fields; only the LENGTH byte needs the bound. -/
theorem builtFrameLayout : Obligations.BuiltFrameLayout := by
  intro p id q hq
  refine ⟨buildFrame_length p id q, ?ident, buildFrame_lengthByte p id q, ?len, buildFrame_payload p id q, ?check⟩
  case ident => rw [buildFrame_take_id, encId, enc_eq_wireBytes]
  case len => rw [buildFrame_lengthByte, toNat_lengthByte hq]
  case check => rw [← hdr_eq, buildFrame_drop_body, buildFrame_take_body, enc_eq_wireBytes]

/-- The transmit path changes nothing but the events (`43_tx_builder.md` R171). -/
theorem txRaw_eq_transmitted (id : Ident) (q : List Byte) (n : Nat) (s : State) :
    txRaw id q n s = { s with events := s.transmitted id (q.take n) } := by
  have hclamp : q.take (clamp s.params n) = (q.take n).take s.params.maxPayload.val := by
    rw [List.take_take, clamp, min_comm]
  simp only [txRaw_eq, hclamp, buildFrame_eq_wireFrame, State.transmitted]
  split <;> rfl

/-- An identifier up to `ID_MAX` passes the check of the `TX` operations (`30_encoding.md` R76). -/
theorem idFits_of_le {p : Params} {id : Ident} (h : id.toNat ≤ p.idMax) : p.idFits id = true :=
  decide_eq_true h

/-- Settles O20: the identifier passes its check, so only the number of bytes decides. -/
theorem transmitRawCompletes : Obligations.TransmitRawCompletes := by
  intro s id n bytes hid
  rw [exec_txRaw]
  obtain ⟨-, hlen, e⟩ | ⟨-, hlen, e⟩ | ⟨hwide, -⟩ := execTxRaw_cases id n bytes s
  · rw [e, txRaw_eq_transmitted]
    exact ⟨fun _ => rfl, fun hshort => absurd hlen hshort.not_ge⟩
  · exact ⟨fun henough => absurd hlen henough.not_gt, fun _ => e⟩
  · exact absurd (idFits_of_le hid) (by simp [hwide])

/-- `TX.t` sends the bytes of its value, all `width(t)` of them but for the clamp (`43_tx_builder.md` R173 to
R182). -/
theorem exec_tx_wireBytes {s : State} {id : Ident} (hid : id.toNat ≤ s.params.idMax) (t : ValType)
    (v : BitVec t.bits) :
    exec (Instr.tx t id v) s =
      .next { s with events := s.transmitted id (wireBytes s.params.byteOrder t.width v.toNat) } := by
  have hwhole : (ser s.params.byteOrder t v).take t.width = ser s.params.byteOrder t v :=
    List.take_of_length_le (ser_length ..).le
  rw [exec_tx, transmit, if_pos (idFits_of_le hid), txRaw_eq_transmitted, hwhole, ser_eq_wireBytes]

/-- Settles O21: the one effect of `TX.t`, at each type. -/
theorem transmitTypedCompletes : Obligations.TransmitTypedCompletes := fun _ _ hid =>
  ⟨exec_tx_wireBytes hid .u8, exec_tx_wireBytes hid .s8, exec_tx_wireBytes hid .u16,
    exec_tx_wireBytes hid .s16, exec_tx_wireBytes hid .u32, exec_tx_wireBytes hid .s32,
    exec_tx_wireBytes hid .u64, exec_tx_wireBytes hid .s64, exec_tx_wireBytes hid .f32,
    exec_tx_wireBytes hid .f64⟩

/-- Every frame sent so far is valid: `State.Safe` without what does not bear on frames. -/
def State.SentValid (s : State) : Prop := ∀ f, .sink f ∈ s.events → ValidFrame s.params f

section
variable {s t : State}

/-- Emitting keeps the sent frames valid when the event, if it is a frame, is a valid one. -/
theorem emit_sentValid (h : s.SentValid) {e : Event} (he : ∀ f, e = .sink f → ValidFrame s.params f) :
    (s.emit e).SentValid := by
  intro f hf
  obtain hold | hnew := List.mem_append.mp hf
  · exact h f hold
  · exact he f (List.mem_singleton.mp hnew).symm

/-- The transmit path clamps the payload, so what it emits is valid (`43_tx_builder.md` R171, R183). -/
theorem txRaw_sentValid (h : s.SentValid) (id : Ident) (q : List Byte) (n : Nat) :
    (txRaw id q n s).SentValid := by
  rw [txRaw_eq]
  split
  · have hlen := (List.length_take_le _ q).trans (clamp_le s.params n)
    exact emit_sentValid h fun f hf => Event.sink.inj hf ▸ validFrame_buildFrame s.params id hlen
  · exact h

theorem signal_sentValid (h : s.SentValid) (sig : Ident) (q : List Byte) :
    (signal sig q s).SentValid := by
  unfold signal
  split
  · exact txRaw_sentValid h sig q _
  · exact h

/-- What handling an error sends is a signal. -/
theorem raise_sentValid (h : s.SentValid) (e : ErrorClass) : (raise e s).SentValid := by
  cases e with
  | checksumMismatch => exact signal_sentValid (s := { s with cursor := 0 }) h _ _
  | frameTimeout => exact signal_sentValid (s := { s with cursor := 0 }) h _ _
  | lengthMismatch id => exact signal_sentValid h _ _
  | bufferOverrun b => exact h
  | unknownIdentifier id => exact signal_sentValid h _ _

/-- A delivery is no frame; a checksum mismatch sends its signal. -/
theorem checkFrame_sentValid (h : s.SentValid) : (checkFrame s).SentValid := by
  obtain ⟨-, e⟩ | ⟨-, -, e⟩ | ⟨-, -, e⟩ := checkFrame_cases s <;> rw [e]
  · exact h
  · exact emit_sentValid (s := s.latchFrame) h fun _ hf => nomatch hf
  · exact raise_sentValid h _

theorem checkIdle_sentValid (h : s.SentValid) (now : Nat) : (checkIdle now s).SentValid := by
  obtain ⟨-, e⟩ | ⟨-, e⟩ := checkIdle_cases now s <;> rw [e]
  · exact h
  · exact raise_sentValid h _

theorem execRxTick_sentValid (h : s.SentValid) (hx : execRxTick s = .next t) : t.SentValid := by
  obtain ⟨-, e⟩ | ⟨-, -, e⟩ | ⟨b, -, -, -, e⟩ | ⟨b, -, -, -, e⟩ := execRxTick_withByte s <;>
    rw [e] at hx <;> cases hx
  · exact h
  · exact checkIdle_sentValid (s := s.takeInputs) h _
  · exact checkFrame_sentValid (s := s.withByte b) h

/-- Every operation that completes keeps the sent frames valid. -/
theorem exec_sentValid {i : Instr} (h : s.SentValid) (hx : exec i s = .next t) : t.SentValid := by
  by_cases hi : i = .rxTick
  · subst hi
    exact execRxTick_sentValid h hx
  · obtain ⟨q, e⟩ | ⟨b, e⟩ | ⟨r, e⟩ | ⟨id, q, n, e⟩ | ⟨sig, q, e⟩ | ⟨id, e⟩ := exec_cases hi s <;>
      rw [e] at hx <;> cases hx
    · exact h
    · exact h
    · exact txRaw_sentValid h id q n
    · exact signal_sentValid h sig q
    · exact raise_sentValid h _

end

/-- Settles O23: idling and a reset send nothing, and an operation sends valid frames only. -/
theorem emittedFramesValid : Obligations.EmittedFramesValid := by
  intro s t h hs
  obtain ⟨-, e⟩ | ⟨rest, -, e⟩ | ⟨w, rest, i, -, -, e⟩ | ⟨w, rest, err, -, -, e⟩ := step_cases s <;>
    rw [e] at hs
  · cases hs
    exact h
  · cases hs
    exact h
  · exact exec_sentValid (s := { s with port := rest }) h hs
  · cases hs

end Sys2Proof.Machine
end

section
/-! The signal operations and the reply gate (`44_signals.md`): what each `SIG` operation does in every state, and
that the gate does not bear on `TX.RAW`. -/

namespace Sys2Proof.Machine

/-- An unknown identifier is signalled with the identifier in `ID_W` bytes as payload (`60_exceptions.md` R226). -/
theorem raise_unknownIdentifier_eq (id : Ident) (s : State) :
    raise (.unknownIdentifier id) s =
      { s with
        events := s.signalled s.params.sigUnknownId
          (wireBytes s.params.byteOrder s.params.idBytes id.toNat) } := by
  rw [raise, signal_eq_signalled, encId, enc_eq_wireBytes]

/-- Settles O25: each operation is one signal, and a signal changes nothing but the events. -/
theorem signalOperationsComplete : Obligations.SignalOperationsComplete := by
  refine fun s => ⟨?ack, ?nack, fun id hid => ?unknownId⟩
  case ack => rw [exec_sigAck, signal_eq_signalled]
  case nack => rw [exec_sigNack, signal_eq_signalled]
  case unknownId =>
    rw [exec_sigUnknownId, execSigUnknownId, if_pos (idFits_of_le hid), raise_unknownIdentifier_eq]

/-- The events after a transmission do not depend on the reply gate (`44_signals.md` R199). -/
theorem transmitted_errorReplyEnabled (s : State) (reply : Bool) (id : Ident) (q : List Byte) :
    { s with cfg := { s.cfg with errorReplyEnabled := reply } }.transmitted id q = s.transmitted id q := rfl

/-- Settles O26: `TX.RAW` completes on both settings of the gate, and what it sends does not depend on it. -/
theorem rawTransmitIgnoresReplyGate : Obligations.RawTransmitIgnoresReplyGate := by
  intro s reply id n bytes hid hlen
  have completes (u : State) (hp : u.params = s.params) :
      exec (.txRaw id n bytes) u = .next { u with events := u.transmitted id (bytes.take n.toNat) } :=
    (transmitRawCompletes u id n bytes (hp ▸ hid)).1 (hp ▸ hlen)
  exact ⟨_, _, completes s rfl, completes _ rfl, transmitted_errorReplyEnabled s reply id _⟩

end Sys2Proof.Machine
end

section
/-! Typed receive (`45_typed_rx.md`): the three answers of `RECV.t` in every state, once for all ten types. -/

namespace Sys2Proof.Machine

/-- A length mismatch is signalled with the identifier in `ID_W` bytes as payload (`60_exceptions.md` R223). -/
theorem raise_lengthMismatch_eq (id : Ident) (s : State) :
    raise (.lengthMismatch id) s =
      { s with
        events := s.signalled s.params.sigLength
          (wireBytes s.params.byteOrder s.params.idBytes id.toNat) } := by
  rw [raise, signal_eq_signalled, encId, enc_eq_wireBytes]

section
variable {s : State}

/-- `RECV.t` before any frame was validated (`45_typed_rx.md` R201). -/
theorem exec_recv_of_no_frame (hnone : s.rxfValid = false) (t : ValType) :
    exec (Instr.recv t) s = .refused .noValidFrame := by
  rw [exec_recv, recv, if_neg (ne_true_of_eq_false hnone)]

/-- `RECV.t` on a held frame of `width(t)` payload bytes, in the words of `20_memory.md` R50, with everything it
leaves unchanged (`45_typed_rx.md` R202 to R211). -/
theorem exec_recv_of_width (hheld : s.rxfValid = true) (t : ValType) (hlen : s.rxfLen = t.width) :
    exec (Instr.recv t) s = .next { s with results := s.results ++
      [.ok (.pattern t
        (BitVec.ofNat t.bits (wireNat s.params.byteOrder (s.rxfPayload.take t.width))))] } := by
  rw [exec_recv, recv, if_pos hheld, if_pos hlen, des_eq_wireNat, State.giveResult]

/-- `RECV.t` on a held frame of another length, with everything it leaves unchanged: the frame stays held
(`45_typed_rx.md` R212, R213). -/
theorem exec_recv_of_ne_width (hheld : s.rxfValid = true) (t : ValType) (hlen : s.rxfLen ≠ t.width) :
    exec (Instr.recv t) s = .next { s with
      events := s.signalled s.params.sigLength
        (wireBytes s.params.byteOrder s.params.idBytes s.rxfId.toNat)
      results := s.results ++ [.lengthMismatch] } := by
  rw [exec_recv, recv, if_pos hheld, if_neg hlen, raise_lengthMismatch_eq, State.giveResult]

end

/-- Settles O44: the answer of `RECV.t` on `width(t)` payload bytes, at each type. -/
theorem typedReceiveCompletes : Obligations.TypedReceiveCompletes := fun _ hheld =>
  ⟨exec_recv_of_width hheld .u8, exec_recv_of_width hheld .s8, exec_recv_of_width hheld .u16,
    exec_recv_of_width hheld .s16, exec_recv_of_width hheld .u32, exec_recv_of_width hheld .s32,
    exec_recv_of_width hheld .u64, exec_recv_of_width hheld .s64, exec_recv_of_width hheld .f32,
    exec_recv_of_width hheld .f64⟩

/-- Settles O45: the answer of `RECV.t` on any other number of payload bytes, at each type. -/
theorem typedReceiveLengthMismatch : Obligations.TypedReceiveLengthMismatch := fun _ hheld =>
  ⟨exec_recv_of_ne_width hheld .u8, exec_recv_of_ne_width hheld .s8, exec_recv_of_ne_width hheld .u16,
    exec_recv_of_ne_width hheld .s16, exec_recv_of_ne_width hheld .u32, exec_recv_of_ne_width hheld .s32,
    exec_recv_of_ne_width hheld .u64, exec_recv_of_ne_width hheld .s64, exec_recv_of_ne_width hheld .f32,
    exec_recv_of_ne_width hheld .f64⟩

/-- Settles O46: the refusal of `RECV.t` while no frame is held, at each type. -/
theorem typedReceiveRefusedBeforeFrame : Obligations.TypedReceiveRefusedBeforeFrame := fun _ hnone =>
  ⟨exec_recv_of_no_frame hnone .u8, exec_recv_of_no_frame hnone .s8, exec_recv_of_no_frame hnone .u16,
    exec_recv_of_no_frame hnone .s16, exec_recv_of_no_frame hnone .u32, exec_recv_of_no_frame hnone .s32,
    exec_recv_of_no_frame hnone .u64, exec_recv_of_no_frame hnone .s64, exec_recv_of_no_frame hnone .f32,
    exec_recv_of_no_frame hnone .f64⟩

end Sys2Proof.Machine
end

section
/-! Channel control (`46_control.md`): the two operations that write `cfg`, and that nothing but a reset writes it
beside them. -/

namespace Sys2Proof.Machine

/-- Settles O48: the record update of `State.setEnabled` is the whole effect. -/
theorem enableDisableComplete : Obligations.EnableDisableComplete := fun s =>
  ⟨exec_cfgEnable s, exec_cfgDisable s⟩

@[simp] theorem withByte_cfg (s : State) (b : Byte) : (s.withByte b).cfg = s.cfg := rfl

@[simp] theorem checkFrame_cfg (s : State) : (checkFrame s).cfg = s.cfg := by
  obtain ⟨-, e⟩ | ⟨-, -, e⟩ | ⟨-, -, e⟩ := checkFrame_cases s <;> simp [e]

@[simp] theorem checkIdle_cfg (now : Nat) (s : State) : (checkIdle now s).cfg = s.cfg := by
  obtain ⟨-, e⟩ | ⟨-, e⟩ := checkIdle_cases now s <;> simp [e]

section
variable {i : Instr} {s t : State}

theorem execRxTick_cfg (hx : execRxTick s = .next t) : t.cfg = s.cfg := by
  obtain ⟨-, e⟩ | ⟨-, -, e⟩ | ⟨b, -, -, -, e⟩ | ⟨b, -, -, -, e⟩ := execRxTick_withByte s <;>
    rw [e] at hx <;> cases hx <;> simp

/-- An operation that completes keeps the parameters and, of `cfg`, all but the enable flag (`46_control.md`
R218). -/
theorem exec_config (hx : exec i s = .next t) :
    t.params = s.params ∧ ∃ b, t.cfg = { s.cfg with enabled := b } := by
  by_cases hi : i = .rxTick
  · subst hi
    exact ⟨execRxTick_params hx, s.cfg.enabled, execRxTick_cfg hx⟩
  · obtain ⟨b, es, rs, -, -, rfl⟩ := exec_frame hi hx
    exact ⟨rfl, b, rfl⟩

/-- Only `CFG.ENABLE` and `CFG.DISABLE` write the enable flag (`46_control.md` R216 to R218). -/
theorem exec_cfg_of_ne (hon : i ≠ .cfgEnable) (hoff : i ≠ .cfgDisable) (hx : exec i s = .next t) :
    t.cfg = s.cfg := by
  induction i using Instr.groupCases with
  | cfgEnable => exact absurd rfl hon
  | cfgDisable => exact absurd rfl hoff
  | rxTick => exact execRxTick_cfg hx
  | crc16 n bytes =>
    obtain ⟨-, e⟩ | ⟨-, e⟩ := execCrc16_cases n bytes s <;> rw [exec_crc16, e] at hx <;> cases hx
    rfl
  | txRaw id n bytes =>
    obtain ⟨-, -, e⟩ | ⟨-, -, e⟩ | ⟨-, e⟩ := execTxRaw_cases id n bytes s <;>
      rw [exec_txRaw, e] at hx <;> cases hx
    exact txRaw_cfg ..
  | sigUnknownId id =>
    obtain ⟨-, e⟩ | ⟨-, e⟩ := execSigUnknownId_cases id s <;>
      rw [exec_sigUnknownId, e] at hx <;> cases hx
    exact signal_cfg ..
  | sigAck =>
    cases hx
    exact signal_cfg ..
  | sigNack =>
    cases hx
    exact signal_cfg ..
  | ser ty v =>
    rw [exec_ser] at hx
    cases hx
    rfl
  | des ty bs =>
    obtain ⟨-, e⟩ | ⟨-, e⟩ := deserialize_cases ty bs s <;> rw [exec_des, e] at hx <;> cases hx
    rfl
  | tx ty id v =>
    obtain ⟨-, e⟩ | ⟨-, e⟩ := transmit_cases ty id v s <;> rw [exec_tx, e] at hx <;> cases hx
    exact txRaw_cfg ..
  | recv ty =>
    obtain ⟨-, e⟩ | ⟨-, -, e⟩ | ⟨-, -, e⟩ := recv_cases ty s <;> rw [exec_recv, e] at hx <;> cases hx
    · exact raise_cfg ..
    · rfl

end

/-- Settles O43: an operation by `exec_config` and `exec_cfg_of_ne`; a step is idle, a reset, which keeps the
parameters, or an operation. -/
theorem configImmutable : Obligations.ConfigImmutable := by
  refine ⟨fun i s t hx => ?operation, fun s t hs => ?step⟩
  case operation =>
    obtain ⟨hparams, b, hcfg⟩ := exec_config hx
    exact ⟨hparams, by rw [hcfg], by rw [hcfg], fun hon hoff => exec_cfg_of_ne hon hoff hx⟩
  case step =>
    obtain ⟨-, e⟩ | ⟨rest, hport, e⟩ | ⟨w, rest, i, -, -, e⟩ | ⟨w, rest, err, -, -, e⟩ := step_cases s <;>
      rw [e] at hs
    · cases hs
      exact ⟨rfl, fun _ => ⟨rfl, rfl⟩⟩
    · cases hs
      exact ⟨rfl, fun hne => absurd hport (hne rest)⟩
    · obtain ⟨hparams, b, hcfg⟩ := exec_config hs
      exact ⟨hparams, fun _ => ⟨by rw [hcfg], by rw [hcfg]⟩⟩
    · cases hs

end Sys2Proof.Machine
end

section
/-! Error handling (`60_exceptions.md`): what raising each of the five classes does, and that no error is fatal
in a state that meets the invariant. -/

namespace Sys2Proof.Machine

/-- An overrun overwrites the last slot of the buffer and sends nothing (`60_exceptions.md` R224). -/
theorem raise_bufferOverrun_eq (b : Byte) (s : State) :
    raise (.bufferOverrun b) s = { s with rxbuf := Memory.write s.rxbuf (s.params.cap - 1) b } := rfl

/-- Settles O27: each class by its own equation. -/
theorem raisedErrorsSignalTheirCode : Obligations.RaisedErrorsSignalTheirCode := fun s =>
  ⟨raise_checksumMismatch_eq s, raise_frameTimeout_eq s, fun id => raise_lengthMismatch_eq id s,
    fun id => raise_unknownIdentifier_eq id s, fun b => raise_bufferOverrun_eq b s⟩

section
variable {s : State}

/-- The invariant keeps the cursor below `CAP`, so `RX.TICK` always completes (`10_state.md` R35). -/
theorem exec_rxTick_completes (h : s.Safe) : ∃ t, exec .rxTick s = .next t :=
  (tickCompletesUpToCapacity s).1 h.cursor_lt_cap.le

/-- `RX.TICK` is the only operation that can fault, and only outside the invariant. -/
theorem exec_ne_fault (h : s.Safe) (i : Instr) (f : Fault) : exec i s ≠ .fault f := by
  by_cases hi : i = .rxTick
  · obtain ⟨t, e⟩ := exec_rxTick_completes h
    simp [hi, e]
  · obtain ⟨_, e⟩ | ⟨_, e⟩ | ⟨_, e⟩ | ⟨_, _, _, e⟩ | ⟨_, _, e⟩ | ⟨_, e⟩ := exec_cases hi s <;> simp [e]

/-- Only an operation can fault: no request, a reset and a word that is no operation do not. -/
theorem safeStep_of_safe (h : s.Safe) : SafeStep s := by
  intro f
  obtain ⟨-, e⟩ | ⟨rest, -, e⟩ | ⟨w, rest, i, -, -, e⟩ | ⟨w, rest, err, -, -, e⟩ := step_cases s <;> rw [e]
  · nofun
  · nofun
  · exact exec_ne_fault (port_safe h rest) i f
  · nofun

theorem exec_crc16_completes {n : Word16} {bytes : List Byte} (hlen : n.toNat ≤ bytes.length) :
    ∃ t, exec (.crc16 n bytes) s = .next t := by
  obtain ⟨-, e⟩ | ⟨hshort, -⟩ := execCrc16_cases n bytes s
  · exact ⟨_, e⟩
  · exact absurd hlen hshort.not_ge

theorem exec_txRaw_completes {id : Ident} {n : Word16} {bytes : List Byte}
    (hid : s.params.idFits id = true) (hlen : clamp s.params n.toNat ≤ bytes.length) :
    ∃ t, exec (.txRaw id n bytes) s = .next t := by
  obtain ⟨-, -, e⟩ | ⟨-, hshort, -⟩ | ⟨hwide, -⟩ := execTxRaw_cases id n bytes s
  · exact ⟨_, e⟩
  · exact absurd hlen hshort.not_ge
  · exact absurd hid (ne_true_of_eq_false hwide)

theorem exec_sigUnknownId_completes {id : Ident} (hid : s.params.idFits id = true) :
    ∃ t, exec (.sigUnknownId id) s = .next t :=
  ⟨_, if_pos hid⟩

theorem exec_tx_completes {id : Ident} (hid : s.params.idFits id = true) (t : ValType) (v : BitVec t.bits) :
    ∃ u, exec (Instr.tx t id v) s = .next u :=
  ⟨_, (exec_tx t id v s).trans (if_pos hid)⟩

/-- With a frame held, `RECV.t` gives the value or reports the length mismatch (`45_typed_rx.md` R200). -/
theorem exec_recv_completes (hheld : s.rxfValid = true) (t : ValType) :
    ∃ u, exec (Instr.recv t) s = .next u := by
  by_cases hlen : s.rxfLen = t.width
  · exact ⟨_, exec_recv_of_width hheld t hlen⟩
  · exact ⟨_, exec_recv_of_ne_width hheld t hlen⟩

/-- Each clause of `Instr.wellFormed` is what its operation checks; `RECV.t` also needs a frame. -/
theorem exec_completes {i : Instr} (h : s.Safe) (hwf : i.wellFormed s.params = true)
    (hheld : (∃ ty, i = Instr.recv ty) → s.rxfValid = true) : ∃ t, exec i s = .next t := by
  induction i using Instr.groupCases with
  | rxTick => exact exec_rxTick_completes h
  | cfgEnable => exact ⟨_, exec_cfgEnable s⟩
  | cfgDisable => exact ⟨_, exec_cfgDisable s⟩
  | crc16 n bytes => exact exec_crc16_completes (of_decide_eq_true hwf)
  | txRaw id n bytes =>
    obtain ⟨hid, hlen⟩ := Bool.and_eq_true_iff.mp hwf
    exact exec_txRaw_completes hid (of_decide_eq_true hlen)
  | sigUnknownId id => exact exec_sigUnknownId_completes hwf
  | sigAck => exact ⟨_, exec_sigAck s⟩
  | sigNack => exact ⟨_, exec_sigNack s⟩
  | ser t v => exact ⟨_, exec_ser t v s⟩
  | des t bs =>
    rw [wellFormed_des, decide_eq_true_iff] at hwf
    exact ⟨_, exec_des_of_width s hwf⟩
  | tx t id v =>
    rw [wellFormed_tx] at hwf
    exact exec_tx_completes hwf t v
  | recv t => exact exec_recv_completes (hheld ⟨t, rfl⟩) t

end

/-- Settles O53: no request leads to the one fault, and no well-formed operation to a refusal. -/
theorem invariantForbidsFault : Obligations.InvariantForbidsFault :=
  ⟨fun _ => safeStep_of_safe, fun _ _ => exec_completes⟩

end Sys2Proof.Machine
end

section
/-! Reset and hazards (`70_reset_and_hazards.md`): a reset of a running instance, a step with no request, and typed
receive of a type wider than `MAX_PAYLOAD`. -/

namespace Sys2Proof.Machine

/-- Settles O50: the record update of `State.applyReset`, on the state with the request consumed, is the whole
effect. -/
theorem resetRequestResets : Obligations.ResetRequestResets := fun _ _ hport => step_reset hport

/-- Settles O55. -/
theorem idlePortDoesNothing : Obligations.IdlePortDoesNothing := fun _ hport => step_idle hport

/-- The held length is at most `MAX_PAYLOAD` (`10_state.md` R34), so it is not the width of a wider type. -/
theorem rxfLen_ne_width_of_maxPayload_lt {s : State} {t : ValType} (h : s.Safe)
    (hwide : s.params.maxPayload.val < t.width) : s.rxfLen ≠ t.width :=
  (h.lenFits.trans_lt hwide).ne

/-- Settles O47: before a first frame `RECV.t` does not complete, and a held frame is too short for the type. -/
theorem oversizeTypedReceiveNeverSucceeds : Obligations.OversizeTypedReceiveNeverSucceeds := by
  intro s t ty hsafe hwide hx
  cases hheld : s.rxfValid with
  | false =>
    rw [exec_recv_of_no_frame hheld] at hx
    cases hx
  | true =>
    rw [exec_recv_of_ne_width hheld ty (rxfLen_ne_width_of_maxPayload_lt hsafe hwide)] at hx
    cases hx
    rfl

end Sys2Proof.Machine
end
